-- ==== Sys2Proof/Word.lean ====
section
/-! DEFINITION. The words of the machine (00_scope.md R9, R12): a byte is 8 bits, an address and a register pair
16 bits. -/

namespace Sys2Proof

/-- A `u8`: an 8-bit register or one byte of memory (R12, R21). -/
abbrev Byte := BitVec 8

/-- A `u16`: SP, PC, a register pair or an address (R9, R12). -/
abbrev Word := BitVec 16

end Sys2Proof
end

