-- ==== Sys2Proof/Config.lean ====
section
/-! DEFINITION. The named parameters of the spec (00_scope.md R10), as plain data that one machine holds fixed, and
the one free value: the byte a device answers. -/

namespace Sys2Proof

/-- The two opcode spaces (R9, R17). -/
inductive Space where
  | primary
  | secondary
  deriving DecidableEq, Repr

/-- The key that selects a metadata record and a handler (R102): the space and the opcode byte in it. -/
structure Key where
  space  : Space
  opcode : Byte
  deriving DecidableEq, Repr

/-- What an access is for (R262, R279): a fetch is the read of an instruction byte. -/
inductive Access where
  | fetch
  | read
  | write
  deriving DecidableEq, Repr

/-- One record of `CYCLE_TABLE` (R103, R108): the base cost and, for a conditional transfer, the cost when it is not
taken. -/
structure Cost where
  base     : Nat
  notTaken : Option Nat
  deriving DecidableEq, Repr

/-- A change to the default `CYCLE_TABLE` (R10, R108): the record a key has, or `none` where the table lacks it. -/
structure CostRecord where
  key  : Key
  cost : Option Cost
  deriving DecidableEq, Repr

/-- `CYCLE_UNIT` (R10, R290). -/
inductive CycleUnit where
  | tState
  | machineCycle
  deriving DecidableEq, Repr

/-- `STOP_LENGTH` (R10, R251): how many bytes STOP consumes. -/
inductive StopLength where
  | one
  | two
  deriving DecidableEq, Repr

/-- `RESET_PROFILE` (R10, R38, R39). -/
inductive ResetProfile where
  | zero
  | postBoot
  deriving DecidableEq, Repr

/-- A piece of the fault predicate of `MEMORY` (R50, R52, R53): accesses to the addresses `lo` to `hi` fault, reads
(a fetch is one) where `onRead`, writes where `onWrite`. `info` is the interface's own fault data (R279). -/
structure FaultRange where
  lo      : Word
  hi      : Word
  onRead  : Bool
  onWrite : Bool
  info    : Nat
  deriving DecidableEq, Repr

/-- Addresses `lo` to `hi` that the memory subsystem answers itself (R50, R60): a read takes its value from the memory
oracle, a write goes to the device. -/
structure DeviceRange where
  lo : Word
  hi : Word
  deriving DecidableEq, Repr

/-- One access that reached a device (R60), with the byte read or written. -/
inductive IoEvent where
  | read  (addr : Word) (value : Byte)
  | write (addr : Word) (value : Byte)
  deriving DecidableEq, Repr

/-- The parameters of one machine (R10). They are data of the state so that a claim can be made for every value of
them; no step changes them. -/
structure Config where
  stopLength      : StopLength
  cycleUnit       : CycleUnit
  costChanges     : List CostRecord
  idleCycles      : Nat
  interruptCycles : Nat
  faults          : List FaultRange
  devices         : List DeviceRange
  deriving DecidableEq, Repr

/-- FREE VALUE (log entry 5): the byte a device answers at an address, given every earlier access to a device, newest
first. Nothing is known of it (R50: "an oracle that may return any byte and may change device state"). -/
opaque Config.deviceByte : List IoEvent → Word → Byte

end Sys2Proof
end

