-- ==== Sys2Proof/Machine/Bits.lean ====
section
/-! DEFINITION. Bit fields, byte order and extension (00_scope.md R11, R12; 20_memory.md R56), and the defaults of the
parameters (R10, R290). -/

namespace Sys2Proof

/-- `v[7:0]` of a word (R11). -/
def loByte (w : Word) : Byte := w.setWidth 8

/-- `v[15:8]` of a word (R11). -/
def hiByte (w : Word) : Byte := (w >>> 8).setWidth 8

/-- `hi:lo`, that is `(hi << 8) | lo` (R12, R24). -/
def mkWord (hi lo : Byte) : Word := hi.setWidth 16 <<< 8 ||| lo.setWidth 16

/-- `sext_16` (R12): two's-complement extension of a byte. -/
def sext16 (v : Byte) : Word := v.signExtend 16

/-- `zext_16` (R12). -/
def zext16 (v : Byte) : Word := v.setWidth 16

/-- `v[3:0]` as a number (R11). -/
def lowNibble (v : Byte) : Nat := v.toNat % 16

/-- The byte whose bit `i` is `b` and whose other bits are 0. -/
def bitAt (i : Nat) (b : Bool) : Byte := if b then 1#8 <<< i else 0#8

/-- The word of the high page a byte offset names: `0xFF00 + n` (R78). -/
def highPage (n : Byte) : Word := 0xFF00#16 + zext16 n

/-- A default cost, given in T-states, in the unit of the machine (R290). -/
def CycleUnit.scale : CycleUnit → Nat → Nat
  | .tState, n => n
  | .machineCycle, n => n / 4

/-- A default cost record in the unit of the machine (R290). -/
def Cost.scale (u : CycleUnit) (c : Cost) : Cost :=
  { base := u.scale c.base, notTaken := c.notTaken.map u.scale }

/-- The default parameters (R10) in a cycle unit: `STOP_LENGTH` 2, `IDLE_CYCLES` 4, `INTERRUPT_CYCLES` 20, the default
`CYCLE_TABLE`, and a `MEMORY` that is plain RAM and faults nothing (R50). -/
def Config.inUnit (u : CycleUnit) : Config :=
  { stopLength := .two, cycleUnit := u, costChanges := [], idleCycles := u.scale 4,
    interruptCycles := u.scale 20, faults := [], devices := [] }

/-- The default parameters (R10), costs in T-states. -/
def Config.standard : Config := Config.inUnit .tState

/-- The fault predicate of `MEMORY` (R50, R52, R53): the fault data of the first range that refuses the access. -/
def Config.faultInfo (cfg : Config) (a : Word) (k : Access) : Option Nat :=
  (cfg.faults.find? fun r =>
    decide (r.lo ≤ a) && decide (a ≤ r.hi) && (if k = .write then r.onWrite else r.onRead)).map (·.info)

/-- Whether an address belongs to a device (R60). -/
def Config.isDevice (cfg : Config) (a : Word) : Bool :=
  cfg.devices.any fun r => decide (r.lo ≤ a) && decide (a ≤ r.hi)

end Sys2Proof
end

