-- ==== Sys2Proof/Syntax.lean ====
section
/-! DEFINITION. The instructions: one constructor per row of spec/opcode_table.json (30_encoding.md R90), 244 primary,
11 illegal primary and 256 secondary rows, each with the operand bytes its row carries; and the instruction FORMS, the
rows grouped by their operand fields (R72 to R80). -/

namespace Sys2Proof

/-- The register an 8-bit operand field names, but for the value 6 (R73). -/
inductive Reg8 where
  | b | c | d | e | h | l | a
  deriving DecidableEq, Repr

/-- What an 8-bit operand field names (R73): a register, or for the value 6 the byte at address HL. -/
inductive Loc8 where
  | reg (r : Reg8)
  | ind
  deriving DecidableEq, Repr

/-- The second operand of an 8-bit operator (R150). -/
inductive Src8 where
  | reg (r : Reg8)
  | ind
  | imm (v : Byte)
  deriving DecidableEq, Repr

/-- The `rp` table (R74). -/
inductive Pair where
  | bc | de | hl | sp
  deriving DecidableEq, Repr

/-- The `rp2` table (R74). -/
inductive StackPair where
  | bc | de | hl | af
  deriving DecidableEq, Repr

/-- The `rpm` table (R74). -/
inductive Ptr where
  | bc | de | hlInc | hlDec
  deriving DecidableEq, Repr

/-- The condition field (R75). -/
inductive Cond where
  | nz | z | nc | c
  deriving DecidableEq, Repr

/-- The operation field of the 8-bit operators (R81, R150). -/
inductive AluOp where
  | add | adc | sub | sbc | and | xor | or | cp
  deriving DecidableEq, Repr

/-- The operation field of the secondary space's group 0 (R82, R210). -/
inductive ShiftOp where
  | rlc | rrc | rl | rr | sla | sra | swap | srl
  deriving DecidableEq, Repr

/-- The instruction forms: one constructor per rule of files 41 to 48, with the operand fields of R73 to R80. It is the
tables' own grouping of the 511 rows; a row's form is `Instr.form` (Machine/Forms.lean). -/
inductive Form where
  | ldRegReg (dst src : Reg8)
  | ldRegImm (dst : Reg8) (v : Byte)
  | ldRegInd (dst : Reg8)
  | ldIndReg (src : Reg8)
  | ldIndImm (v : Byte)
  | ldAPtr (p : Ptr)
  | ldPtrA (p : Ptr)
  | ldAbsA (w : Word)
  | ldAAbs (w : Word)
  | ldhPageA (n : Byte)
  | ldhAPage (n : Byte)
  | ldhCA
  | ldhAC
  | ldPairImm (p : Pair) (w : Word)
  | ldAbsSP (w : Word)
  | ldSPHL
  | push (p : StackPair)
  | pop (p : StackPair)
  | ldHLSPOff (e : Byte)
  | alu (op : AluOp) (src : Src8)
  | inc8 (x : Loc8)
  | dec8 (x : Loc8)
  | addHL (p : Pair)
  | inc16 (p : Pair)
  | dec16 (p : Pair)
  | addSPOff (e : Byte)
  | rlca
  | rrca
  | rla
  | rra
  | daa
  | cpl
  | scf
  | ccf
  | nop
  | shift (op : ShiftOp) (x : Loc8)
  | bit (b : Fin 8) (x : Loc8)
  | res (b : Fin 8) (x : Loc8)
  | set (b : Fin 8) (x : Loc8)
  | jp (w : Word)
  | jpCC (cc : Cond) (w : Word)
  | jpHL
  | jr (e : Byte)
  | jrCC (cc : Cond) (e : Byte)
  | call (w : Word)
  | callCC (cc : Cond) (w : Word)
  | ret
  | retCC (cc : Cond)
  | reti
  | rst (y : Fin 8)
  | halt
  | stop
  | di
  | ei
  | illegal (op : Byte)
  deriving DecidableEq, Repr

/-- The instructions. A constructor carries the operand bytes of its row: a `Byte` for d8, a8 and e8, a `Word` for d16
and a16 (R71, R77). The ignored byte of STOP is no operand (R86). The rows with operand bytes stand first, then
the others, each group in the table's order. -/
inductive Instr where
  /-- LD BC,d16: 0x01, R140. -/
  | ldBCImm (w : Word)
  /-- LD B,d8: 0x06, R122. -/
  | ldBImm (v : Byte)
  /-- LD (a16),SP: 0x08, R141. -/
  | ldAtAbsSP (w : Word)
  /-- LD C,d8: 0x0E, R122. -/
  | ldCImm (v : Byte)
  /-- LD DE,d16: 0x11, R140. -/
  | ldDEImm (w : Word)
  /-- LD D,d8: 0x16, R122. -/
  | ldDImm (v : Byte)
  /-- JR e8: 0x18, R239. -/
  | jr (e : Byte)
  /-- LD E,d8: 0x1E, R122. -/
  | ldEImm (v : Byte)
  /-- JR NZ,e8: 0x20, R240. -/
  | jrNZ (e : Byte)
  /-- LD HL,d16: 0x21, R140. -/
  | ldHLImm (w : Word)
  /-- LD H,d8: 0x26, R122. -/
  | ldHImm (v : Byte)
  /-- JR Z,e8: 0x28, R240. -/
  | jrZ (e : Byte)
  /-- LD L,d8: 0x2E, R122. -/
  | ldLImm (v : Byte)
  /-- JR NC,e8: 0x30, R240. -/
  | jrNC (e : Byte)
  /-- LD SP,d16: 0x31, R140. -/
  | ldSPImm (w : Word)
  /-- LD (HL),d8: 0x36, R125. -/
  | ldAtHLImm (v : Byte)
  /-- JR C,e8: 0x38, R240. -/
  | jrC (e : Byte)
  /-- LD A,d8: 0x3E, R122. -/
  | ldAImm (v : Byte)
  /-- JP NZ,a16: 0xC2, R237. -/
  | jpNZ (w : Word)
  /-- JP a16: 0xC3, R236. -/
  | jp (w : Word)
  /-- CALL NZ,a16: 0xC4, R242. -/
  | callNZ (w : Word)
  /-- ADD A,d8: 0xC6, R162. -/
  | addAImm (v : Byte)
  /-- JP Z,a16: 0xCA, R237. -/
  | jpZ (w : Word)
  /-- CALL Z,a16: 0xCC, R242. -/
  | callZ (w : Word)
  /-- CALL a16: 0xCD, R241. -/
  | call (w : Word)
  /-- ADC A,d8: 0xCE, R165. -/
  | adcAImm (v : Byte)
  /-- JP NC,a16: 0xD2, R237. -/
  | jpNC (w : Word)
  /-- CALL NC,a16: 0xD4, R242. -/
  | callNC (w : Word)
  /-- SUB d8: 0xD6, R168. -/
  | subImm (v : Byte)
  /-- JP C,a16: 0xDA, R237. -/
  | jpC (w : Word)
  /-- CALL C,a16: 0xDC, R242. -/
  | callC (w : Word)
  /-- SBC A,d8: 0xDE, R171. -/
  | sbcAImm (v : Byte)
  /-- LDH (a8),A: 0xE0, R136. -/
  | ldhAtPageA (n : Byte)
  /-- AND d8: 0xE6, R174. -/
  | andImm (v : Byte)
  /-- ADD SP,e8: 0xE8, R194. -/
  | addSPOff (e : Byte)
  /-- LD (a16),A: 0xEA, R134. -/
  | ldAtAbsA (w : Word)
  /-- XOR d8: 0xEE, R177. -/
  | xorImm (v : Byte)
  /-- LDH A,(a8): 0xF0, R137. -/
  | ldhAAtPage (n : Byte)
  /-- OR d8: 0xF6, R180. -/
  | orImm (v : Byte)
  /-- LD HL,SP+e8: 0xF8, R146. -/
  | ldHLSPOff (e : Byte)
  /-- LD A,(a16): 0xFA, R135. -/
  | ldAAtAbs (w : Word)
  /-- CP d8: 0xFE, R183. -/
  | cpImm (v : Byte)
  /-- NOP: 0x00, R208. -/
  | nop
  /-- LD (BC),A: 0x02, R128. -/
  | ldAtBCA
  /-- INC BC: 0x03, R192. -/
  | incBC
  /-- INC B: 0x04, R184. -/
  | incB
  /-- DEC B: 0x05, R186. -/
  | decB
  /-- RLCA: 0x07, R200. -/
  | rlca
  /-- ADD HL,BC: 0x09, R191. -/
  | addHLBC
  /-- LD A,(BC): 0x0A, R126. -/
  | ldAAtBC
  /-- DEC BC: 0x0B, R193. -/
  | decBC
  /-- INC C: 0x0C, R184. -/
  | incC
  /-- DEC C: 0x0D, R186. -/
  | decC
  /-- RRCA: 0x0F, R201. -/
  | rrca
  /-- STOP: 0x10, R251. -/
  | stop
  /-- LD (DE),A: 0x12, R129. -/
  | ldAtDEA
  /-- INC DE: 0x13, R192. -/
  | incDE
  /-- INC D: 0x14, R184. -/
  | incD
  /-- DEC D: 0x15, R186. -/
  | decD
  /-- RLA: 0x17, R202. -/
  | rla
  /-- ADD HL,DE: 0x19, R191. -/
  | addHLDE
  /-- LD A,(DE): 0x1A, R127. -/
  | ldAAtDE
  /-- DEC DE: 0x1B, R193. -/
  | decDE
  /-- INC E: 0x1C, R184. -/
  | incE
  /-- DEC E: 0x1D, R186. -/
  | decE
  /-- RRA: 0x1F, R203. -/
  | rra
  /-- LD (HL+),A: 0x22, R130. -/
  | ldAtHLIncA
  /-- INC HL: 0x23, R192. -/
  | incHL
  /-- INC H: 0x24, R184. -/
  | incH
  /-- DEC H: 0x25, R186. -/
  | decH
  /-- DAA: 0x27, R204. -/
  | daa
  /-- ADD HL,HL: 0x29, R191. -/
  | addHLHL
  /-- LD A,(HL+): 0x2A, R132. -/
  | ldAAtHLInc
  /-- DEC HL: 0x2B, R193. -/
  | decHL
  /-- INC L: 0x2C, R184. -/
  | incL
  /-- DEC L: 0x2D, R186. -/
  | decL
  /-- CPL: 0x2F, R205. -/
  | cpl
  /-- LD (HL-),A: 0x32, R131. -/
  | ldAtHLDecA
  /-- INC SP: 0x33, R192. -/
  | incSP
  /-- INC (HL): 0x34, R185. -/
  | incAtHL
  /-- DEC (HL): 0x35, R187. -/
  | decAtHL
  /-- SCF: 0x37, R206. -/
  | scf
  /-- ADD HL,SP: 0x39, R191. -/
  | addHLSP
  /-- LD A,(HL-): 0x3A, R133. -/
  | ldAAtHLDec
  /-- DEC SP: 0x3B, R193. -/
  | decSP
  /-- INC A: 0x3C, R184. -/
  | incA
  /-- DEC A: 0x3D, R186. -/
  | decA
  /-- CCF: 0x3F, R207. -/
  | ccf
  /-- LD B,B: 0x40, R121. -/
  | ldBB
  /-- LD B,C: 0x41, R121. -/
  | ldBC
  /-- LD B,D: 0x42, R121. -/
  | ldBD
  /-- LD B,E: 0x43, R121. -/
  | ldBE
  /-- LD B,H: 0x44, R121. -/
  | ldBH
  /-- LD B,L: 0x45, R121. -/
  | ldBL
  /-- LD B,(HL): 0x46, R123. -/
  | ldBAtHL
  /-- LD B,A: 0x47, R121. -/
  | ldBA
  /-- LD C,B: 0x48, R121. -/
  | ldCB
  /-- LD C,C: 0x49, R121. -/
  | ldCC
  /-- LD C,D: 0x4A, R121. -/
  | ldCD
  /-- LD C,E: 0x4B, R121. -/
  | ldCE
  /-- LD C,H: 0x4C, R121. -/
  | ldCH
  /-- LD C,L: 0x4D, R121. -/
  | ldCL
  /-- LD C,(HL): 0x4E, R123. -/
  | ldCAtHL
  /-- LD C,A: 0x4F, R121. -/
  | ldCA
  /-- LD D,B: 0x50, R121. -/
  | ldDB
  /-- LD D,C: 0x51, R121. -/
  | ldDC
  /-- LD D,D: 0x52, R121. -/
  | ldDD
  /-- LD D,E: 0x53, R121. -/
  | ldDE
  /-- LD D,H: 0x54, R121. -/
  | ldDH
  /-- LD D,L: 0x55, R121. -/
  | ldDL
  /-- LD D,(HL): 0x56, R123. -/
  | ldDAtHL
  /-- LD D,A: 0x57, R121. -/
  | ldDA
  /-- LD E,B: 0x58, R121. -/
  | ldEB
  /-- LD E,C: 0x59, R121. -/
  | ldEC
  /-- LD E,D: 0x5A, R121. -/
  | ldED
  /-- LD E,E: 0x5B, R121. -/
  | ldEE
  /-- LD E,H: 0x5C, R121. -/
  | ldEH
  /-- LD E,L: 0x5D, R121. -/
  | ldEL
  /-- LD E,(HL): 0x5E, R123. -/
  | ldEAtHL
  /-- LD E,A: 0x5F, R121. -/
  | ldEA
  /-- LD H,B: 0x60, R121. -/
  | ldHB
  /-- LD H,C: 0x61, R121. -/
  | ldHC
  /-- LD H,D: 0x62, R121. -/
  | ldHD
  /-- LD H,E: 0x63, R121. -/
  | ldHE
  /-- LD H,H: 0x64, R121. -/
  | ldHH
  /-- LD H,L: 0x65, R121. -/
  | ldHL
  /-- LD H,(HL): 0x66, R123. -/
  | ldHAtHL
  /-- LD H,A: 0x67, R121. -/
  | ldHA
  /-- LD L,B: 0x68, R121. -/
  | ldLB
  /-- LD L,C: 0x69, R121. -/
  | ldLC
  /-- LD L,D: 0x6A, R121. -/
  | ldLD
  /-- LD L,E: 0x6B, R121. -/
  | ldLE
  /-- LD L,H: 0x6C, R121. -/
  | ldLH
  /-- LD L,L: 0x6D, R121. -/
  | ldLL
  /-- LD L,(HL): 0x6E, R123. -/
  | ldLAtHL
  /-- LD L,A: 0x6F, R121. -/
  | ldLA
  /-- LD (HL),B: 0x70, R124. -/
  | ldAtHLB
  /-- LD (HL),C: 0x71, R124. -/
  | ldAtHLC
  /-- LD (HL),D: 0x72, R124. -/
  | ldAtHLD
  /-- LD (HL),E: 0x73, R124. -/
  | ldAtHLE
  /-- LD (HL),H: 0x74, R124. -/
  | ldAtHLH
  /-- LD (HL),L: 0x75, R124. -/
  | ldAtHLL
  /-- HALT: 0x76, R250. -/
  | halt
  /-- LD (HL),A: 0x77, R124. -/
  | ldAtHLA
  /-- LD A,B: 0x78, R121. -/
  | ldAB
  /-- LD A,C: 0x79, R121. -/
  | ldAC
  /-- LD A,D: 0x7A, R121. -/
  | ldAD
  /-- LD A,E: 0x7B, R121. -/
  | ldAE
  /-- LD A,H: 0x7C, R121. -/
  | ldAH
  /-- LD A,L: 0x7D, R121. -/
  | ldAL
  /-- LD A,(HL): 0x7E, R123. -/
  | ldAAtHL
  /-- LD A,A: 0x7F, R121. -/
  | ldAA
  /-- ADD A,B: 0x80, R160. -/
  | addAB
  /-- ADD A,C: 0x81, R160. -/
  | addAC
  /-- ADD A,D: 0x82, R160. -/
  | addAD
  /-- ADD A,E: 0x83, R160. -/
  | addAE
  /-- ADD A,H: 0x84, R160. -/
  | addAH
  /-- ADD A,L: 0x85, R160. -/
  | addAL
  /-- ADD A,(HL): 0x86, R161. -/
  | addAAtHL
  /-- ADD A,A: 0x87, R160. -/
  | addAA
  /-- ADC A,B: 0x88, R163. -/
  | adcAB
  /-- ADC A,C: 0x89, R163. -/
  | adcAC
  /-- ADC A,D: 0x8A, R163. -/
  | adcAD
  /-- ADC A,E: 0x8B, R163. -/
  | adcAE
  /-- ADC A,H: 0x8C, R163. -/
  | adcAH
  /-- ADC A,L: 0x8D, R163. -/
  | adcAL
  /-- ADC A,(HL): 0x8E, R164. -/
  | adcAAtHL
  /-- ADC A,A: 0x8F, R163. -/
  | adcAA
  /-- SUB B: 0x90, R166. -/
  | subB
  /-- SUB C: 0x91, R166. -/
  | subC
  /-- SUB D: 0x92, R166. -/
  | subD
  /-- SUB E: 0x93, R166. -/
  | subE
  /-- SUB H: 0x94, R166. -/
  | subH
  /-- SUB L: 0x95, R166. -/
  | subL
  /-- SUB (HL): 0x96, R167. -/
  | subAtHL
  /-- SUB A: 0x97, R166. -/
  | subA
  /-- SBC A,B: 0x98, R169. -/
  | sbcAB
  /-- SBC A,C: 0x99, R169. -/
  | sbcAC
  /-- SBC A,D: 0x9A, R169. -/
  | sbcAD
  /-- SBC A,E: 0x9B, R169. -/
  | sbcAE
  /-- SBC A,H: 0x9C, R169. -/
  | sbcAH
  /-- SBC A,L: 0x9D, R169. -/
  | sbcAL
  /-- SBC A,(HL): 0x9E, R170. -/
  | sbcAAtHL
  /-- SBC A,A: 0x9F, R169. -/
  | sbcAA
  /-- AND B: 0xA0, R172. -/
  | andB
  /-- AND C: 0xA1, R172. -/
  | andC
  /-- AND D: 0xA2, R172. -/
  | andD
  /-- AND E: 0xA3, R172. -/
  | andE
  /-- AND H: 0xA4, R172. -/
  | andH
  /-- AND L: 0xA5, R172. -/
  | andL
  /-- AND (HL): 0xA6, R173. -/
  | andAtHL
  /-- AND A: 0xA7, R172. -/
  | andA
  /-- XOR B: 0xA8, R175. -/
  | xorB
  /-- XOR C: 0xA9, R175. -/
  | xorC
  /-- XOR D: 0xAA, R175. -/
  | xorD
  /-- XOR E: 0xAB, R175. -/
  | xorE
  /-- XOR H: 0xAC, R175. -/
  | xorH
  /-- XOR L: 0xAD, R175. -/
  | xorL
  /-- XOR (HL): 0xAE, R176. -/
  | xorAtHL
  /-- XOR A: 0xAF, R175. -/
  | xorA
  /-- OR B: 0xB0, R178. -/
  | orB
  /-- OR C: 0xB1, R178. -/
  | orC
  /-- OR D: 0xB2, R178. -/
  | orD
  /-- OR E: 0xB3, R178. -/
  | orE
  /-- OR H: 0xB4, R178. -/
  | orH
  /-- OR L: 0xB5, R178. -/
  | orL
  /-- OR (HL): 0xB6, R179. -/
  | orAtHL
  /-- OR A: 0xB7, R178. -/
  | orA
  /-- CP B: 0xB8, R181. -/
  | cpB
  /-- CP C: 0xB9, R181. -/
  | cpC
  /-- CP D: 0xBA, R181. -/
  | cpD
  /-- CP E: 0xBB, R181. -/
  | cpE
  /-- CP H: 0xBC, R181. -/
  | cpH
  /-- CP L: 0xBD, R181. -/
  | cpL
  /-- CP (HL): 0xBE, R182. -/
  | cpAtHL
  /-- CP A: 0xBF, R181. -/
  | cpA
  /-- RET NZ: 0xC0, R244. -/
  | retNZ
  /-- POP BC: 0xC1, R144. -/
  | popBC
  /-- PUSH BC: 0xC5, R143. -/
  | pushBC
  /-- RST 00H: 0xC7, R246. -/
  | rst00
  /-- RET Z: 0xC8, R244. -/
  | retZ
  /-- RET: 0xC9, R243. -/
  | ret
  /-- RST 08H: 0xCF, R246. -/
  | rst08
  /-- RET NC: 0xD0, R244. -/
  | retNC
  /-- POP DE: 0xD1, R144. -/
  | popDE
  /-- ILLEGAL_D3: 0xD3, R106. -/
  | illegalD3
  /-- PUSH DE: 0xD5, R143. -/
  | pushDE
  /-- RST 10H: 0xD7, R246. -/
  | rst10
  /-- RET C: 0xD8, R244. -/
  | retC
  /-- RETI: 0xD9, R245. -/
  | reti
  /-- ILLEGAL_DB: 0xDB, R106. -/
  | illegalDB
  /-- ILLEGAL_DD: 0xDD, R106. -/
  | illegalDD
  /-- RST 18H: 0xDF, R246. -/
  | rst18
  /-- POP HL: 0xE1, R144. -/
  | popHL
  /-- LD (C),A: 0xE2, R138. -/
  | ldAtCA
  /-- ILLEGAL_E3: 0xE3, R106. -/
  | illegalE3
  /-- ILLEGAL_E4: 0xE4, R106. -/
  | illegalE4
  /-- PUSH HL: 0xE5, R143. -/
  | pushHL
  /-- RST 20H: 0xE7, R246. -/
  | rst20
  /-- JP HL: 0xE9, R238. -/
  | jpHL
  /-- ILLEGAL_EB: 0xEB, R106. -/
  | illegalEB
  /-- ILLEGAL_EC: 0xEC, R106. -/
  | illegalEC
  /-- ILLEGAL_ED: 0xED, R106. -/
  | illegalED
  /-- RST 28H: 0xEF, R246. -/
  | rst28
  /-- POP AF: 0xF1, R145. -/
  | popAF
  /-- LD A,(C): 0xF2, R139. -/
  | ldAAtC
  /-- DI: 0xF3, R252. -/
  | di
  /-- ILLEGAL_F4: 0xF4, R106. -/
  | illegalF4
  /-- PUSH AF: 0xF5, R143. -/
  | pushAF
  /-- RST 30H: 0xF7, R246. -/
  | rst30
  /-- LD SP,HL: 0xF9, R142. -/
  | ldSPHL
  /-- EI: 0xFB, R253. -/
  | ei
  /-- ILLEGAL_FC: 0xFC, R106. -/
  | illegalFC
  /-- ILLEGAL_FD: 0xFD, R106. -/
  | illegalFD
  /-- RST 38H: 0xFF, R246. -/
  | rst38
  /-- RLC B: 0xCB00, R211. -/
  | rlcB
  /-- RLC C: 0xCB01, R211. -/
  | rlcC
  /-- RLC D: 0xCB02, R211. -/
  | rlcD
  /-- RLC E: 0xCB03, R211. -/
  | rlcE
  /-- RLC H: 0xCB04, R211. -/
  | rlcH
  /-- RLC L: 0xCB05, R211. -/
  | rlcL
  /-- RLC (HL): 0xCB06, R212. -/
  | rlcAtHL
  /-- RLC A: 0xCB07, R211. -/
  | rlcA
  /-- RRC B: 0xCB08, R213. -/
  | rrcB
  /-- RRC C: 0xCB09, R213. -/
  | rrcC
  /-- RRC D: 0xCB0A, R213. -/
  | rrcD
  /-- RRC E: 0xCB0B, R213. -/
  | rrcE
  /-- RRC H: 0xCB0C, R213. -/
  | rrcH
  /-- RRC L: 0xCB0D, R213. -/
  | rrcL
  /-- RRC (HL): 0xCB0E, R214. -/
  | rrcAtHL
  /-- RRC A: 0xCB0F, R213. -/
  | rrcA
  /-- RL B: 0xCB10, R215. -/
  | rlB
  /-- RL C: 0xCB11, R215. -/
  | rlC
  /-- RL D: 0xCB12, R215. -/
  | rlD
  /-- RL E: 0xCB13, R215. -/
  | rlE
  /-- RL H: 0xCB14, R215. -/
  | rlH
  /-- RL L: 0xCB15, R215. -/
  | rlL
  /-- RL (HL): 0xCB16, R216. -/
  | rlAtHL
  /-- RL A: 0xCB17, R215. -/
  | rlA
  /-- RR B: 0xCB18, R217. -/
  | rrB
  /-- RR C: 0xCB19, R217. -/
  | rrC
  /-- RR D: 0xCB1A, R217. -/
  | rrD
  /-- RR E: 0xCB1B, R217. -/
  | rrE
  /-- RR H: 0xCB1C, R217. -/
  | rrH
  /-- RR L: 0xCB1D, R217. -/
  | rrL
  /-- RR (HL): 0xCB1E, R218. -/
  | rrAtHL
  /-- RR A: 0xCB1F, R217. -/
  | rrA
  /-- SLA B: 0xCB20, R219. -/
  | slaB
  /-- SLA C: 0xCB21, R219. -/
  | slaC
  /-- SLA D: 0xCB22, R219. -/
  | slaD
  /-- SLA E: 0xCB23, R219. -/
  | slaE
  /-- SLA H: 0xCB24, R219. -/
  | slaH
  /-- SLA L: 0xCB25, R219. -/
  | slaL
  /-- SLA (HL): 0xCB26, R220. -/
  | slaAtHL
  /-- SLA A: 0xCB27, R219. -/
  | slaA
  /-- SRA B: 0xCB28, R221. -/
  | sraB
  /-- SRA C: 0xCB29, R221. -/
  | sraC
  /-- SRA D: 0xCB2A, R221. -/
  | sraD
  /-- SRA E: 0xCB2B, R221. -/
  | sraE
  /-- SRA H: 0xCB2C, R221. -/
  | sraH
  /-- SRA L: 0xCB2D, R221. -/
  | sraL
  /-- SRA (HL): 0xCB2E, R222. -/
  | sraAtHL
  /-- SRA A: 0xCB2F, R221. -/
  | sraA
  /-- SWAP B: 0xCB30, R223. -/
  | swapB
  /-- SWAP C: 0xCB31, R223. -/
  | swapC
  /-- SWAP D: 0xCB32, R223. -/
  | swapD
  /-- SWAP E: 0xCB33, R223. -/
  | swapE
  /-- SWAP H: 0xCB34, R223. -/
  | swapH
  /-- SWAP L: 0xCB35, R223. -/
  | swapL
  /-- SWAP (HL): 0xCB36, R224. -/
  | swapAtHL
  /-- SWAP A: 0xCB37, R223. -/
  | swapA
  /-- SRL B: 0xCB38, R225. -/
  | srlB
  /-- SRL C: 0xCB39, R225. -/
  | srlC
  /-- SRL D: 0xCB3A, R225. -/
  | srlD
  /-- SRL E: 0xCB3B, R225. -/
  | srlE
  /-- SRL H: 0xCB3C, R225. -/
  | srlH
  /-- SRL L: 0xCB3D, R225. -/
  | srlL
  /-- SRL (HL): 0xCB3E, R226. -/
  | srlAtHL
  /-- SRL A: 0xCB3F, R225. -/
  | srlA
  /-- BIT 0,B: 0xCB40, R227. -/
  | bit0B
  /-- BIT 0,C: 0xCB41, R227. -/
  | bit0C
  /-- BIT 0,D: 0xCB42, R227. -/
  | bit0D
  /-- BIT 0,E: 0xCB43, R227. -/
  | bit0E
  /-- BIT 0,H: 0xCB44, R227. -/
  | bit0H
  /-- BIT 0,L: 0xCB45, R227. -/
  | bit0L
  /-- BIT 0,(HL): 0xCB46, R228. -/
  | bit0AtHL
  /-- BIT 0,A: 0xCB47, R227. -/
  | bit0A
  /-- BIT 1,B: 0xCB48, R227. -/
  | bit1B
  /-- BIT 1,C: 0xCB49, R227. -/
  | bit1C
  /-- BIT 1,D: 0xCB4A, R227. -/
  | bit1D
  /-- BIT 1,E: 0xCB4B, R227. -/
  | bit1E
  /-- BIT 1,H: 0xCB4C, R227. -/
  | bit1H
  /-- BIT 1,L: 0xCB4D, R227. -/
  | bit1L
  /-- BIT 1,(HL): 0xCB4E, R228. -/
  | bit1AtHL
  /-- BIT 1,A: 0xCB4F, R227. -/
  | bit1A
  /-- BIT 2,B: 0xCB50, R227. -/
  | bit2B
  /-- BIT 2,C: 0xCB51, R227. -/
  | bit2C
  /-- BIT 2,D: 0xCB52, R227. -/
  | bit2D
  /-- BIT 2,E: 0xCB53, R227. -/
  | bit2E
  /-- BIT 2,H: 0xCB54, R227. -/
  | bit2H
  /-- BIT 2,L: 0xCB55, R227. -/
  | bit2L
  /-- BIT 2,(HL): 0xCB56, R228. -/
  | bit2AtHL
  /-- BIT 2,A: 0xCB57, R227. -/
  | bit2A
  /-- BIT 3,B: 0xCB58, R227. -/
  | bit3B
  /-- BIT 3,C: 0xCB59, R227. -/
  | bit3C
  /-- BIT 3,D: 0xCB5A, R227. -/
  | bit3D
  /-- BIT 3,E: 0xCB5B, R227. -/
  | bit3E
  /-- BIT 3,H: 0xCB5C, R227. -/
  | bit3H
  /-- BIT 3,L: 0xCB5D, R227. -/
  | bit3L
  /-- BIT 3,(HL): 0xCB5E, R228. -/
  | bit3AtHL
  /-- BIT 3,A: 0xCB5F, R227. -/
  | bit3A
  /-- BIT 4,B: 0xCB60, R227. -/
  | bit4B
  /-- BIT 4,C: 0xCB61, R227. -/
  | bit4C
  /-- BIT 4,D: 0xCB62, R227. -/
  | bit4D
  /-- BIT 4,E: 0xCB63, R227. -/
  | bit4E
  /-- BIT 4,H: 0xCB64, R227. -/
  | bit4H
  /-- BIT 4,L: 0xCB65, R227. -/
  | bit4L
  /-- BIT 4,(HL): 0xCB66, R228. -/
  | bit4AtHL
  /-- BIT 4,A: 0xCB67, R227. -/
  | bit4A
  /-- BIT 5,B: 0xCB68, R227. -/
  | bit5B
  /-- BIT 5,C: 0xCB69, R227. -/
  | bit5C
  /-- BIT 5,D: 0xCB6A, R227. -/
  | bit5D
  /-- BIT 5,E: 0xCB6B, R227. -/
  | bit5E
  /-- BIT 5,H: 0xCB6C, R227. -/
  | bit5H
  /-- BIT 5,L: 0xCB6D, R227. -/
  | bit5L
  /-- BIT 5,(HL): 0xCB6E, R228. -/
  | bit5AtHL
  /-- BIT 5,A: 0xCB6F, R227. -/
  | bit5A
  /-- BIT 6,B: 0xCB70, R227. -/
  | bit6B
  /-- BIT 6,C: 0xCB71, R227. -/
  | bit6C
  /-- BIT 6,D: 0xCB72, R227. -/
  | bit6D
  /-- BIT 6,E: 0xCB73, R227. -/
  | bit6E
  /-- BIT 6,H: 0xCB74, R227. -/
  | bit6H
  /-- BIT 6,L: 0xCB75, R227. -/
  | bit6L
  /-- BIT 6,(HL): 0xCB76, R228. -/
  | bit6AtHL
  /-- BIT 6,A: 0xCB77, R227. -/
  | bit6A
  /-- BIT 7,B: 0xCB78, R227. -/
  | bit7B
  /-- BIT 7,C: 0xCB79, R227. -/
  | bit7C
  /-- BIT 7,D: 0xCB7A, R227. -/
  | bit7D
  /-- BIT 7,E: 0xCB7B, R227. -/
  | bit7E
  /-- BIT 7,H: 0xCB7C, R227. -/
  | bit7H
  /-- BIT 7,L: 0xCB7D, R227. -/
  | bit7L
  /-- BIT 7,(HL): 0xCB7E, R228. -/
  | bit7AtHL
  /-- BIT 7,A: 0xCB7F, R227. -/
  | bit7A
  /-- RES 0,B: 0xCB80, R229. -/
  | res0B
  /-- RES 0,C: 0xCB81, R229. -/
  | res0C
  /-- RES 0,D: 0xCB82, R229. -/
  | res0D
  /-- RES 0,E: 0xCB83, R229. -/
  | res0E
  /-- RES 0,H: 0xCB84, R229. -/
  | res0H
  /-- RES 0,L: 0xCB85, R229. -/
  | res0L
  /-- RES 0,(HL): 0xCB86, R230. -/
  | res0AtHL
  /-- RES 0,A: 0xCB87, R229. -/
  | res0A
  /-- RES 1,B: 0xCB88, R229. -/
  | res1B
  /-- RES 1,C: 0xCB89, R229. -/
  | res1C
  /-- RES 1,D: 0xCB8A, R229. -/
  | res1D
  /-- RES 1,E: 0xCB8B, R229. -/
  | res1E
  /-- RES 1,H: 0xCB8C, R229. -/
  | res1H
  /-- RES 1,L: 0xCB8D, R229. -/
  | res1L
  /-- RES 1,(HL): 0xCB8E, R230. -/
  | res1AtHL
  /-- RES 1,A: 0xCB8F, R229. -/
  | res1A
  /-- RES 2,B: 0xCB90, R229. -/
  | res2B
  /-- RES 2,C: 0xCB91, R229. -/
  | res2C
  /-- RES 2,D: 0xCB92, R229. -/
  | res2D
  /-- RES 2,E: 0xCB93, R229. -/
  | res2E
  /-- RES 2,H: 0xCB94, R229. -/
  | res2H
  /-- RES 2,L: 0xCB95, R229. -/
  | res2L
  /-- RES 2,(HL): 0xCB96, R230. -/
  | res2AtHL
  /-- RES 2,A: 0xCB97, R229. -/
  | res2A
  /-- RES 3,B: 0xCB98, R229. -/
  | res3B
  /-- RES 3,C: 0xCB99, R229. -/
  | res3C
  /-- RES 3,D: 0xCB9A, R229. -/
  | res3D
  /-- RES 3,E: 0xCB9B, R229. -/
  | res3E
  /-- RES 3,H: 0xCB9C, R229. -/
  | res3H
  /-- RES 3,L: 0xCB9D, R229. -/
  | res3L
  /-- RES 3,(HL): 0xCB9E, R230. -/
  | res3AtHL
  /-- RES 3,A: 0xCB9F, R229. -/
  | res3A
  /-- RES 4,B: 0xCBA0, R229. -/
  | res4B
  /-- RES 4,C: 0xCBA1, R229. -/
  | res4C
  /-- RES 4,D: 0xCBA2, R229. -/
  | res4D
  /-- RES 4,E: 0xCBA3, R229. -/
  | res4E
  /-- RES 4,H: 0xCBA4, R229. -/
  | res4H
  /-- RES 4,L: 0xCBA5, R229. -/
  | res4L
  /-- RES 4,(HL): 0xCBA6, R230. -/
  | res4AtHL
  /-- RES 4,A: 0xCBA7, R229. -/
  | res4A
  /-- RES 5,B: 0xCBA8, R229. -/
  | res5B
  /-- RES 5,C: 0xCBA9, R229. -/
  | res5C
  /-- RES 5,D: 0xCBAA, R229. -/
  | res5D
  /-- RES 5,E: 0xCBAB, R229. -/
  | res5E
  /-- RES 5,H: 0xCBAC, R229. -/
  | res5H
  /-- RES 5,L: 0xCBAD, R229. -/
  | res5L
  /-- RES 5,(HL): 0xCBAE, R230. -/
  | res5AtHL
  /-- RES 5,A: 0xCBAF, R229. -/
  | res5A
  /-- RES 6,B: 0xCBB0, R229. -/
  | res6B
  /-- RES 6,C: 0xCBB1, R229. -/
  | res6C
  /-- RES 6,D: 0xCBB2, R229. -/
  | res6D
  /-- RES 6,E: 0xCBB3, R229. -/
  | res6E
  /-- RES 6,H: 0xCBB4, R229. -/
  | res6H
  /-- RES 6,L: 0xCBB5, R229. -/
  | res6L
  /-- RES 6,(HL): 0xCBB6, R230. -/
  | res6AtHL
  /-- RES 6,A: 0xCBB7, R229. -/
  | res6A
  /-- RES 7,B: 0xCBB8, R229. -/
  | res7B
  /-- RES 7,C: 0xCBB9, R229. -/
  | res7C
  /-- RES 7,D: 0xCBBA, R229. -/
  | res7D
  /-- RES 7,E: 0xCBBB, R229. -/
  | res7E
  /-- RES 7,H: 0xCBBC, R229. -/
  | res7H
  /-- RES 7,L: 0xCBBD, R229. -/
  | res7L
  /-- RES 7,(HL): 0xCBBE, R230. -/
  | res7AtHL
  /-- RES 7,A: 0xCBBF, R229. -/
  | res7A
  /-- SET 0,B: 0xCBC0, R231. -/
  | set0B
  /-- SET 0,C: 0xCBC1, R231. -/
  | set0C
  /-- SET 0,D: 0xCBC2, R231. -/
  | set0D
  /-- SET 0,E: 0xCBC3, R231. -/
  | set0E
  /-- SET 0,H: 0xCBC4, R231. -/
  | set0H
  /-- SET 0,L: 0xCBC5, R231. -/
  | set0L
  /-- SET 0,(HL): 0xCBC6, R232. -/
  | set0AtHL
  /-- SET 0,A: 0xCBC7, R231. -/
  | set0A
  /-- SET 1,B: 0xCBC8, R231. -/
  | set1B
  /-- SET 1,C: 0xCBC9, R231. -/
  | set1C
  /-- SET 1,D: 0xCBCA, R231. -/
  | set1D
  /-- SET 1,E: 0xCBCB, R231. -/
  | set1E
  /-- SET 1,H: 0xCBCC, R231. -/
  | set1H
  /-- SET 1,L: 0xCBCD, R231. -/
  | set1L
  /-- SET 1,(HL): 0xCBCE, R232. -/
  | set1AtHL
  /-- SET 1,A: 0xCBCF, R231. -/
  | set1A
  /-- SET 2,B: 0xCBD0, R231. -/
  | set2B
  /-- SET 2,C: 0xCBD1, R231. -/
  | set2C
  /-- SET 2,D: 0xCBD2, R231. -/
  | set2D
  /-- SET 2,E: 0xCBD3, R231. -/
  | set2E
  /-- SET 2,H: 0xCBD4, R231. -/
  | set2H
  /-- SET 2,L: 0xCBD5, R231. -/
  | set2L
  /-- SET 2,(HL): 0xCBD6, R232. -/
  | set2AtHL
  /-- SET 2,A: 0xCBD7, R231. -/
  | set2A
  /-- SET 3,B: 0xCBD8, R231. -/
  | set3B
  /-- SET 3,C: 0xCBD9, R231. -/
  | set3C
  /-- SET 3,D: 0xCBDA, R231. -/
  | set3D
  /-- SET 3,E: 0xCBDB, R231. -/
  | set3E
  /-- SET 3,H: 0xCBDC, R231. -/
  | set3H
  /-- SET 3,L: 0xCBDD, R231. -/
  | set3L
  /-- SET 3,(HL): 0xCBDE, R232. -/
  | set3AtHL
  /-- SET 3,A: 0xCBDF, R231. -/
  | set3A
  /-- SET 4,B: 0xCBE0, R231. -/
  | set4B
  /-- SET 4,C: 0xCBE1, R231. -/
  | set4C
  /-- SET 4,D: 0xCBE2, R231. -/
  | set4D
  /-- SET 4,E: 0xCBE3, R231. -/
  | set4E
  /-- SET 4,H: 0xCBE4, R231. -/
  | set4H
  /-- SET 4,L: 0xCBE5, R231. -/
  | set4L
  /-- SET 4,(HL): 0xCBE6, R232. -/
  | set4AtHL
  /-- SET 4,A: 0xCBE7, R231. -/
  | set4A
  /-- SET 5,B: 0xCBE8, R231. -/
  | set5B
  /-- SET 5,C: 0xCBE9, R231. -/
  | set5C
  /-- SET 5,D: 0xCBEA, R231. -/
  | set5D
  /-- SET 5,E: 0xCBEB, R231. -/
  | set5E
  /-- SET 5,H: 0xCBEC, R231. -/
  | set5H
  /-- SET 5,L: 0xCBED, R231. -/
  | set5L
  /-- SET 5,(HL): 0xCBEE, R232. -/
  | set5AtHL
  /-- SET 5,A: 0xCBEF, R231. -/
  | set5A
  /-- SET 6,B: 0xCBF0, R231. -/
  | set6B
  /-- SET 6,C: 0xCBF1, R231. -/
  | set6C
  /-- SET 6,D: 0xCBF2, R231. -/
  | set6D
  /-- SET 6,E: 0xCBF3, R231. -/
  | set6E
  /-- SET 6,H: 0xCBF4, R231. -/
  | set6H
  /-- SET 6,L: 0xCBF5, R231. -/
  | set6L
  /-- SET 6,(HL): 0xCBF6, R232. -/
  | set6AtHL
  /-- SET 6,A: 0xCBF7, R231. -/
  | set6A
  /-- SET 7,B: 0xCBF8, R231. -/
  | set7B
  /-- SET 7,C: 0xCBF9, R231. -/
  | set7C
  /-- SET 7,D: 0xCBFA, R231. -/
  | set7D
  /-- SET 7,E: 0xCBFB, R231. -/
  | set7E
  /-- SET 7,H: 0xCBFC, R231. -/
  | set7H
  /-- SET 7,L: 0xCBFD, R231. -/
  | set7L
  /-- SET 7,(HL): 0xCBFE, R232. -/
  | set7AtHL
  /-- SET 7,A: 0xCBFF, R231. -/
  | set7A
  deriving DecidableEq, Repr

end Sys2Proof
end

