-- ==== Sys2Proof/Machine/State.lean ====
section
/-! DEFINITION. The state of the machine (10_state.md R37), the memory behind its interface (20_memory.md R50), the
parameters it runs with (00_scope.md R10), the errors a step can end in (60_exceptions.md R260), and reset (R280). -/

namespace Sys2Proof.Machine

/-- The four flags (R27): zero, subtract, half-carry, carry. -/
structure Flags where
  z : Bool
  n : Bool
  h : Bool
  c : Bool
  deriving DecidableEq, Repr

/-- The plain memory (R50, R51): address and byte, addresses strictly rising, no entry equal to what an unlisted address
reads as (`Memory.blank`). -/
abbrev Memory := List Host.Cell

/-- The state. `a` to `l`, `flags`, `sp`, `pc` and the four control bits are the architectural state of R37. `mem` is the
content behind the memory interface (R50). `taken` is the branch-taken marker of the last step (R34). `cycles` is the
value the last step or interrupt service returned (R100, R266; log entry 3). `io` is what has passed between the core
and devices, newest first (R60; log entry 5). `cfg` holds the parameters, which nothing changes (R10; log entry 2). -/
structure State where
  a          : Byte
  b          : Byte
  c          : Byte
  d          : Byte
  e          : Byte
  h          : Byte
  l          : Byte
  flags      : Flags
  sp         : Word
  pc         : Word
  ime        : Bool
  imePending : Bool
  halted     : Bool
  stopped    : Bool
  mem        : Memory
  taken      : Bool
  cycles     : Nat
  io         : List IoEvent
  cfg        : Config
  deriving DecidableEq, Repr

/-- The errors of R260. Each ends the step and leaves no state (R111). -/
inductive Fault where
  /-- Raised by the dispatcher for a key with no `CYCLE_TABLE` record (R103) and by the eleven illegal opcodes (R106), with
  the address of the first opcode byte (R261, R279). Safe: the machine stops where the spec says the step ends. -/
  | malformedOpcode (space : Space) (opcode : Byte) (pc : Word)
  /-- Raised by an access the memory interface refuses (R52, R53, R262), with the interface's own data (R279). Safe. -/
  | memoryFault (addr : Word) (access : Access) (info : Nat)
  /-- The internal defensive check (R263): raised only if the decoder found too few bytes, which no state reaches. Safe. -/
  | invariantViolation (what : String)
  deriving DecidableEq, Repr

/-- The cause code of an error (R279). -/
def Fault.code : Fault → Nat
  | .malformedOpcode _ _ _ => 1
  | .memoryFault _ _ _ => 2
  | .invariantViolation _ => 3

/-- What the machine declines to do without an error. -/
inductive Refusal where
  /-- An instruction the model gives no meaning: no arm of exec is left so. Safe. -/
  | notModelled (mnemonic : String)
  /-- The answer `Refused` of the interrupt service operation when IME = 0 or STOPPED = 1 (R266). No step raises it. Safe:
  the spec says the operation is refused and changes nothing. -/
  | interruptNotServiced
  deriving DecidableEq, Repr

/-- The three outcomes of a step. -/
abbrev Out := Host.Outcome State Fault Refusal

/-- A new processor state (R280) in front of a memory, a device history and parameters: with profile `zero` every field is
0 (R38); with `postBoot` it is what the boot ROM leaves (R39). `cycles` is the model's own field and starts at 0. -/
def State.create (p : ResetProfile) (cfg : Config) (mem : Memory) (io : List IoEvent) : State :=
  match p with
  | .zero =>
    { a := 0, b := 0, c := 0, d := 0, e := 0, h := 0, l := 0,
      flags := { z := false, n := false, h := false, c := false },
      sp := 0, pc := 0, ime := false, imePending := false, halted := false, stopped := false,
      mem := mem, taken := false, cycles := 0, io := io, cfg := cfg }
  | .postBoot =>
    { a := 0x01, b := 0x00, c := 0x13, d := 0x00, e := 0xD8, h := 0x01, l := 0x4D,
      flags := { z := true, n := false, h := true, c := true },
      sp := 0xFFFE, pc := 0x0100, ime := false, imePending := false, halted := false, stopped := false,
      mem := mem, taken := false, cycles := 0, io := io, cfg := cfg }

/-- The machine right after reset (R38, R280): the default profile `zero`, the default parameters (R10), and a memory that
lists nothing (R281; log entry 1). -/
def State.reset : State := State.create .zero Config.standard [] []

end Sys2Proof.Machine
end

