-- ==== Sys2Proof/Machine/Flags.lean ====
section
/-! DEFINITION. The pure operators and their flags: 43_alu8.md R151 to R157, 44_alu16.md R190 and R191, 45_rotate_misc.md R200
to R207, 46_cb_shift_bit.md R211 to R232. Sums and differences are taken on unbounded integers and narrowed at the end
(R12). -/

namespace Sys2Proof.Machine

/-- `ADD8` (R151). -/
def add8 (a b : Byte) (cin : Bool) : Byte × Flags :=
  let s := a.toNat + b.toNat + cin.toNat
  let r : Byte := BitVec.ofNat 8 s
  (r, { z := decide (r = 0), n := false,
        h := decide (lowNibble a + lowNibble b + cin.toNat > 0x0F), c := decide (s > 0xFF) })

/-- `SUB8` (R152). -/
def sub8 (a b : Byte) (cin : Bool) : Byte × Flags :=
  let d : Int := (a.toNat : Int) - (b.toNat : Int) - (cin.toNat : Int)
  let r : Byte := BitVec.ofInt 8 d
  (r, { z := decide (r = 0), n := true,
        h := decide (lowNibble a < lowNibble b + cin.toNat), c := decide (a.toNat < b.toNat + cin.toNat) })

/-- `AND8` (R153). -/
def and8 (a b : Byte) : Byte × Flags :=
  (a &&& b, { z := decide (a &&& b = 0), n := false, h := true, c := false })

/-- `OR8` (R154). -/
def or8 (a b : Byte) : Byte × Flags :=
  (a ||| b, { z := decide (a ||| b = 0), n := false, h := false, c := false })

/-- `XOR8` (R155). -/
def xor8 (a b : Byte) : Byte × Flags :=
  (a ^^^ b, { z := decide (a ^^^ b = 0), n := false, h := false, c := false })

/-- The accumulator and the flags an 8-bit operator leaves (R150, R160 to R183), from the accumulator, the second operand
and the old carry. CP computes SUB's flags and leaves the accumulator (R181). -/
def aluResult (op : AluOp) (a b : Byte) (carry : Bool) : Byte × Flags :=
  match op with
  | .add => add8 a b false
  | .adc => add8 a b carry
  | .sub => sub8 a b false
  | .sbc => sub8 a b carry
  | .and => and8 a b
  | .xor => xor8 a b
  | .or => or8 a b
  | .cp => (a, (sub8 a b false).2)

/-- `INC8` (R156); C is unchanged. -/
def incResult (v : Byte) (f : Flags) : Byte × Flags :=
  let r : Byte := BitVec.ofNat 8 (v.toNat + 1)
  (r, { z := decide (r = 0), n := false, h := decide (lowNibble v + 1 > 0x0F), c := f.c })

/-- `DEC8` (R157); C is unchanged. -/
def decResult (v : Byte) (f : Flags) : Byte × Flags :=
  let r : Byte := BitVec.ofInt 8 ((v.toNat : Int) - 1)
  (r, { z := decide (r = 0), n := true, h := decide (lowNibble v < 1), c := f.c })

/-- `SPADD` (R190): SP plus the signed displacement, and the flags both users write (R146, R194): Z and N are 0, H and C are
the carries out of bits 3 and 7 of the unsigned low-byte sum. -/
def spAdd (sp : Word) (e : Byte) : Word × Flags :=
  (sp + sext16 e,
   { z := false, n := false, h := decide (sp.toNat % 16 + lowNibble e > 0x0F),
     c := decide (sp.toNat % 256 + e.toNat > 0xFF) })

/-- The sum and flags of `ADD HL,rr` (R191): H out of bit 11, C out of bit 15, Z unchanged. -/
def addHLResult (a b : Word) (f : Flags) : Word × Flags :=
  let s := a.toNat + b.toNat
  (BitVec.ofNat 16 s,
   { z := f.z, n := false, h := decide (a.toNat % 4096 + b.toNat % 4096 > 0x0FFF), c := decide (s > 0xFFFF) })

/-- The result of a rotate or shift and the bit it moves out (R211 to R226, without the flags). SWAP moves none out and
clears the carry (R223). -/
def shiftResult (op : ShiftOp) (v : Byte) (carry : Bool) : Byte × Bool :=
  match op with
  | .rlc => (v <<< 1 ||| bitAt 0 (v.getLsbD 7), v.getLsbD 7)
  | .rrc => (v >>> 1 ||| bitAt 7 (v.getLsbD 0), v.getLsbD 0)
  | .rl => (v <<< 1 ||| bitAt 0 carry, v.getLsbD 7)
  | .rr => (v >>> 1 ||| bitAt 7 carry, v.getLsbD 0)
  | .sla => (v <<< 1, v.getLsbD 7)
  | .sra => (v >>> 1 ||| v &&& 0x80, v.getLsbD 0)
  | .swap => ((v &&& 0x0F) <<< 4 ||| v >>> 4, false)
  | .srl => (v >>> 1, v.getLsbD 0)

/-- The flags of a secondary-space rotate or shift (R211 to R226): Z from the result, N = H = 0. -/
def shiftFlags (r : Byte) (out : Bool) : Flags :=
  { z := decide (r = 0), n := false, h := false, c := out }

/-- The flags of an accumulator rotate (R200 to R203): Z = N = H = 0 whatever the result. -/
def accRotateFlags (out : Bool) : Flags :=
  { z := false, n := false, h := false, c := out }

/-- `DAA` (R204): both tests are made on A before the correction. -/
def daaResult (a : Byte) (f : Flags) : Byte × Flags :=
  let low := f.h || (!f.n && decide (lowNibble a > 0x09))
  let high := f.c || (!f.n && decide (a.toNat > 0x99))
  let u : Byte := (if low then 0x06 else 0x00) ||| (if high then 0x60 else 0x00)
  let r : Byte := if f.n then a - u else a + u
  (r, { z := decide (r = 0), n := f.n, h := false, c := high })

/-- The flags of `BIT b` (R227): Z is the complement of the bit, N = 0, H = 1, C unchanged. -/
def bitFlags (b : Fin 8) (v : Byte) (f : Flags) : Flags :=
  { z := !v.getLsbD b.val, n := false, h := true, c := f.c }

/-- `RES b` (R229). -/
def resetBit (b : Fin 8) (v : Byte) : Byte := v &&& ~~~(1#8 <<< b.val)

/-- `SET b` (R231). -/
def setBit (b : Fin 8) (v : Byte) : Byte := v ||| 1#8 <<< b.val

end Sys2Proof.Machine
end

