-- ==== Sys2Proof/Machine/Ops.lean ====
section
/-! DEFINITION. The named operations every instruction is written with: memory (20_memory.md), registers, pairs and the flag
codec (10_state.md), the stack (00_scope.md R14), and the two host operations through which interrupts reach the core
(60_exceptions.md R265, R266) beside the return from one (47_control.md R245). -/

namespace Sys2Proof.Machine

/-! ### Memory as data -/

/-- What an unlisted address reads as: 0x00 (log entry 1, DESIGN CHOICE; R281 leaves the content to the interface). -/
def Memory.blank : Byte := 0x00

/-- The byte at an address. -/
def Memory.read : Memory → Nat → Byte
  | [], _ => Memory.blank
  | (k, v) :: m, a => if a = k then v else Memory.read m a

/-- Write a byte, keeping the canonical form: an entry equal to `blank` is removed. -/
def Memory.write : Memory → Nat → Byte → Memory
  | [], a, v => if v = Memory.blank then [] else [(a, v)]
  | (k, w) :: m, a, v =>
    if a < k then if v = Memory.blank then (k, w) :: m else (a, v) :: (k, w) :: m
    else if a = k then if v = Memory.blank then m else (a, v) :: m
    else (k, w) :: Memory.write m a v

/-- Canonical from an address on: addresses strictly rising from `lo`, inside the 64 KiB of R51, no blank entry. -/
def Memory.wfFrom : Nat → Memory → Bool
  | _, [] => true
  | lo, (k, v) :: m => decide (lo ≤ k) && decide (k < 65536) && decide (v ≠ Memory.blank) && Memory.wfFrom (k + 1) m

/-- The canonical form of memory. -/
def Memory.wf (m : Memory) : Bool := Memory.wfFrom 0 m

/-! ### The memory interface -/

/-- Continue with a value, or end the step with the error (R260). -/
def orFault {α : Type} (x : Except Fault α) (k : α → Out) : Out :=
  match x with
  | .ok v => k v
  | .error f => .fault f

/-- The byte a read of `a` gets (R50, R60): a device's answer is the memory oracle's, any other address is plain RAM. -/
def State.peek (s : State) (a : Word) : Byte :=
  if s.cfg.isDevice a then Config.deviceByte s.io a else s.mem.read a.toNat

/-- The state after a read of `a`: RAM is unchanged, a device has seen the read (R60). -/
def State.afterRead (s : State) (a : Word) : State :=
  if s.cfg.isDevice a then { s with io := .read a (Config.deviceByte s.io a) :: s.io } else s

/-- The state after `MEMORY.write(a, v)` (R53): RAM holds the byte, a device has been given it (R60). -/
def State.poke (s : State) (a : Word) (v : Byte) : State :=
  if s.cfg.isDevice a then { s with io := .write a v :: s.io } else { s with mem := s.mem.write a.toNat v }

/-- `MemRead(a, 1)` (R52), a fetch or a data read. -/
def memRead (s : State) (a : Word) (k : Access) : Except Fault (Byte × State) :=
  match s.cfg.faultInfo a k with
  | some info => .error (.memoryFault a k info)
  | none => .ok (s.peek a, s.afterRead a)

/-- `MemWrite(a, 1, v)` (R53). -/
def memWrite (s : State) (a : Word) (v : Byte) : Except Fault State :=
  match s.cfg.faultInfo a .write with
  | some info => .error (.memoryFault a .write info)
  | none => .ok (s.poke a v)

/-- `MemRead(a, 2)` (R54): the low byte from `a`, read first, the high byte from `a + 1` modulo 65536. -/
def memRead16 (s : State) (a : Word) : Except Fault (Word × State) :=
  match memRead s a .read with
  | .error f => .error f
  | .ok (lo, s1) =>
    match memRead s1 (a + 1#16) .read with
    | .error f => .error f
    | .ok (hi, s2) => .ok (mkWord hi lo, s2)

/-- `MemWrite(a, 2, v)` (R55): the low byte at `a`, written first, the high byte at `a + 1` modulo 65536. -/
def memWrite16 (s : State) (a : Word) (v : Word) : Except Fault State :=
  match memWrite s a (loByte v) with
  | .error f => .error f
  | .ok s1 => memWrite s1 (a + 1#16) (hiByte v)

/-! ### Registers, pairs, flags -/

/-- `get8` (R23). -/
def State.getReg (s : State) : Reg8 → Byte
  | .b => s.b
  | .c => s.c
  | .d => s.d
  | .e => s.e
  | .h => s.h
  | .l => s.l
  | .a => s.a

/-- `set8` (R23). -/
def State.setReg (s : State) (r : Reg8) (v : Byte) : State :=
  match r with
  | .b => { s with b := v }
  | .c => { s with c := v }
  | .d => { s with d := v }
  | .e => { s with e := v }
  | .h => { s with h := v }
  | .l => { s with l := v }
  | .a => { s with a := v }

/-- The flag codec's packing (R27): bits 7, 6, 5, 4 for Z, N, H, C, bits 3 to 0 zero. -/
def Flags.pack (f : Flags) : Byte :=
  bitAt 7 f.z ||| bitAt 6 f.n ||| bitAt 5 f.h ||| bitAt 4 f.c

/-- The flag codec's unpacking (R28). -/
def Flags.unpack (v : Byte) : Flags :=
  { z := v.getLsbD 7, n := v.getLsbD 6, h := v.getLsbD 5, c := v.getLsbD 4 }

/-- HL as a view (R24). -/
def State.hl (s : State) : Word := mkWord s.h s.l

/-- BC as a view (R24). -/
def State.bc (s : State) : Word := mkWord s.b s.c

/-- DE as a view (R24). -/
def State.de (s : State) : Word := mkWord s.d s.e

/-- AF as a view (R25). -/
def State.af (s : State) : Word := mkWord s.a s.flags.pack

/-- Write both halves of HL (R24). -/
def State.setHL (s : State) (w : Word) : State := { s with h := hiByte w, l := loByte w }

/-- Write both halves of BC (R24). -/
def State.setBC (s : State) (w : Word) : State := { s with b := hiByte w, c := loByte w }

/-- Write both halves of DE (R24). -/
def State.setDE (s : State) (w : Word) : State := { s with d := hiByte w, e := loByte w }

/-- Write AF (R26): the accumulator and all four flags; bits 3 to 0 are discarded. -/
def State.setAF (s : State) (w : Word) : State := { s with a := hiByte w, flags := Flags.unpack (loByte w) }

/-- `get16` on the `rp` table (R23, R74). -/
def State.getPair (s : State) : Pair → Word
  | .bc => s.bc
  | .de => s.de
  | .hl => s.hl
  | .sp => s.sp

/-- `set16` on the `rp` table (R23, R74). -/
def State.setPair (s : State) (p : Pair) (w : Word) : State :=
  match p with
  | .bc => s.setBC w
  | .de => s.setDE w
  | .hl => s.setHL w
  | .sp => { s with sp := w }

/-- `get16` on the `rp2` table (R23, R74). -/
def State.getStackPair (s : State) : StackPair → Word
  | .bc => s.bc
  | .de => s.de
  | .hl => s.hl
  | .af => s.af

/-- `set16` on the `rp2` table (R23, R74). -/
def State.setStackPair (s : State) (p : StackPair) (w : Word) : State :=
  match p with
  | .bc => s.setBC w
  | .de => s.setDE w
  | .hl => s.setHL w
  | .af => s.setAF w

/-! ### The stack and control transfer -/

/-- `push16` (R14): SP decreases by 2, then the word is written at it. -/
def push16 (s : State) (v : Word) : Except Fault State :=
  memWrite16 { s with sp := s.sp - 2#16 } (s.sp - 2#16) v

/-- `pop16` (R14): the word at SP, then SP increases by 2. -/
def pop16 (s : State) : Except Fault (Word × State) :=
  match memRead16 s s.sp with
  | .error f => .error f
  | .ok (v, s1) => .ok (v, { s1 with sp := s1.sp + 2#16 })

/-- `PC <- target; TAKEN <- 1` (R104). -/
def State.jump (s : State) (target : Word) : State := { s with pc := target, taken := true }

/-! ### Interrupts -/

/-- The wake operation (R265). -/
def wake (s : State) : State := { s with halted := false, stopped := false }

/-- The interrupt service operation (R266, R269): refused unless IME = 1 and STOPPED = 0; else it leaves the halted state,
clears IME and IME_PENDING, pushes PC, goes to the host's vector and returns `INTERRUPT_CYCLES`. -/
def service (vector : Word) (s : State) : Out :=
  if !s.ime || s.stopped then .refused .interruptNotServiced
  else
    orFault (push16 { s with halted := false, ime := false, imePending := false } s.pc) fun t =>
      .next { t with pc := vector, cycles := t.cfg.interruptCycles }

/-- The return from an interrupt (R245, R270): PC from the stack, IME set at once, IME_PENDING cleared. -/
def returnFromInterrupt (s : State) : Out :=
  orFault (pop16 s) fun r => .next { r.2.jump r.1 with ime := true, imePending := false }

end Sys2Proof.Machine
end

