-- ==== Sys2Proof/Machine/Operands.lean ====
section
/-! DEFINITION. Operand forms (30_encoding.md R73 to R80; 43_alu8.md R150; 46_cb_shift_bit.md R210): how each is read and
written. -/

namespace Sys2Proof.Machine

/-- Read an 8-bit operand field (R73): a register, or the byte at HL. -/
def readLoc (s : State) : Loc8 → Except Fault (Byte × State)
  | .reg r => .ok (s.getReg r, s)
  | .ind => memRead s s.hl .read

/-- Write an 8-bit operand field (R73). -/
def writeLoc (s : State) (x : Loc8) (v : Byte) : Except Fault State :=
  match x with
  | .reg r => .ok (s.setReg r v)
  | .ind => memWrite s s.hl v

/-- Resolve the second operand of an 8-bit operator (R150). -/
def readSrc (s : State) : Src8 → Except Fault (Byte × State)
  | .reg r => .ok (s.getReg r, s)
  | .ind => memRead s s.hl .read
  | .imm v => .ok (v, s)

/-- The address an `rpm` operand names (R74, R120). -/
def State.ptrAddr (s : State) : Ptr → Word
  | .bc => s.bc
  | .de => s.de
  | .hlInc => s.hl
  | .hlDec => s.hl

/-- The adjustment of HL after the access (R120). -/
def State.ptrAdjust (s : State) : Ptr → State
  | .bc => s
  | .de => s
  | .hlInc => s.setHL (s.hl + 1#16)
  | .hlDec => s.setHL (s.hl - 1#16)

/-- A condition on the flags (R75, R235). -/
def condHolds (cc : Cond) (f : Flags) : Bool :=
  match cc with
  | .nz => !f.z
  | .z => f.z
  | .nc => !f.c
  | .c => f.c

/-- The target of `RST` (R79). -/
def rstTarget (y : Fin 8) : Word := BitVec.ofNat 16 (y.val * 8)

end Sys2Proof.Machine
end

