-- ==== Sys2Proof/Machine/Alu16.lean ====
section
/-! DEFINITION. 16-bit arithmetic (44_alu16.md). -/

namespace Sys2Proof.Machine

/-- `ADD HL,rr` (R191). -/
def opAddHL (p : Pair) (s : State) : Out :=
  .next { s.setHL (addHLResult s.hl (s.getPair p) s.flags).1 with
          flags := (addHLResult s.hl (s.getPair p) s.flags).2 }

/-- `INC rr` (R192). -/
def opInc16 (p : Pair) (s : State) : Out := .next (s.setPair p (s.getPair p + 1#16))

/-- `DEC rr` (R193). -/
def opDec16 (p : Pair) (s : State) : Out := .next (s.setPair p (s.getPair p - 1#16))

/-- `ADD SP,e8` (R194). -/
def opAddSPOff (e : Byte) (s : State) : Out :=
  .next { s with sp := (spAdd s.sp e).1, flags := (spAdd s.sp e).2 }

/-- INC BC (R192). -/
def execIncBC (s : State) : Out := opInc16 .bc s

/-- ADD HL,BC (R191). -/
def execAddHLBC (s : State) : Out := opAddHL .bc s

/-- DEC BC (R193). -/
def execDecBC (s : State) : Out := opDec16 .bc s

/-- INC DE (R192). -/
def execIncDE (s : State) : Out := opInc16 .de s

/-- ADD HL,DE (R191). -/
def execAddHLDE (s : State) : Out := opAddHL .de s

/-- DEC DE (R193). -/
def execDecDE (s : State) : Out := opDec16 .de s

/-- INC HL (R192). -/
def execIncHL (s : State) : Out := opInc16 .hl s

/-- ADD HL,HL (R191). -/
def execAddHLHL (s : State) : Out := opAddHL .hl s

/-- DEC HL (R193). -/
def execDecHL (s : State) : Out := opDec16 .hl s

/-- INC SP (R192). -/
def execIncSP (s : State) : Out := opInc16 .sp s

/-- ADD HL,SP (R191). -/
def execAddHLSP (s : State) : Out := opAddHL .sp s

/-- DEC SP (R193). -/
def execDecSP (s : State) : Out := opDec16 .sp s

/-- ADD SP,e8 (R194). -/
def execAddSPOff (e : Byte) (s : State) : Out := opAddSPOff e s

end Sys2Proof.Machine
end

