-- ==== Sys2Proof/Machine/Alu8.lean ====
section
/-! DEFINITION. 8-bit arithmetic and logic (43_alu8.md). -/

namespace Sys2Proof.Machine

/-- `ADD`, `ADC`, `SUB`, `SBC`, `AND`, `XOR`, `OR`, `CP` on a register, the byte at HL or d8 (R160 to R183): the operand is
resolved first (R150), the old carry is read before any flag is written (R163). -/
def opAlu (op : AluOp) (src : Src8) (s : State) : Out :=
  orFault (readSrc s src) fun x =>
    .next { x.2 with a := (aluResult op s.a x.1 s.flags.c).1, flags := (aluResult op s.a x.1 s.flags.c).2 }

/-- `INC r` and `INC (HL)` (R184, R185). -/
def opInc8 (x : Loc8) (s : State) : Out :=
  orFault (readLoc s x) fun r =>
    orFault (writeLoc r.2 x (incResult r.1 s.flags).1) fun t => .next { t with flags := (incResult r.1 s.flags).2 }

/-- `DEC r` and `DEC (HL)` (R186, R187). -/
def opDec8 (x : Loc8) (s : State) : Out :=
  orFault (readLoc s x) fun r =>
    orFault (writeLoc r.2 x (decResult r.1 s.flags).1) fun t => .next { t with flags := (decResult r.1 s.flags).2 }

/-- INC B (R184). -/
def execIncB (s : State) : Out := opInc8 (.reg .b) s

/-- DEC B (R186). -/
def execDecB (s : State) : Out := opDec8 (.reg .b) s

/-- INC C (R184). -/
def execIncC (s : State) : Out := opInc8 (.reg .c) s

/-- DEC C (R186). -/
def execDecC (s : State) : Out := opDec8 (.reg .c) s

/-- INC D (R184). -/
def execIncD (s : State) : Out := opInc8 (.reg .d) s

/-- DEC D (R186). -/
def execDecD (s : State) : Out := opDec8 (.reg .d) s

/-- INC E (R184). -/
def execIncE (s : State) : Out := opInc8 (.reg .e) s

/-- DEC E (R186). -/
def execDecE (s : State) : Out := opDec8 (.reg .e) s

/-- INC H (R184). -/
def execIncH (s : State) : Out := opInc8 (.reg .h) s

/-- DEC H (R186). -/
def execDecH (s : State) : Out := opDec8 (.reg .h) s

/-- INC L (R184). -/
def execIncL (s : State) : Out := opInc8 (.reg .l) s

/-- DEC L (R186). -/
def execDecL (s : State) : Out := opDec8 (.reg .l) s

/-- INC (HL) (R185). -/
def execIncAtHL (s : State) : Out := opInc8 .ind s

/-- DEC (HL) (R187). -/
def execDecAtHL (s : State) : Out := opDec8 .ind s

/-- INC A (R184). -/
def execIncA (s : State) : Out := opInc8 (.reg .a) s

/-- DEC A (R186). -/
def execDecA (s : State) : Out := opDec8 (.reg .a) s

/-- ADD A,B (R160). -/
def execAddAB (s : State) : Out := opAlu .add (.reg .b) s

/-- ADD A,C (R160). -/
def execAddAC (s : State) : Out := opAlu .add (.reg .c) s

/-- ADD A,D (R160). -/
def execAddAD (s : State) : Out := opAlu .add (.reg .d) s

/-- ADD A,E (R160). -/
def execAddAE (s : State) : Out := opAlu .add (.reg .e) s

/-- ADD A,H (R160). -/
def execAddAH (s : State) : Out := opAlu .add (.reg .h) s

/-- ADD A,L (R160). -/
def execAddAL (s : State) : Out := opAlu .add (.reg .l) s

/-- ADD A,(HL) (R161). -/
def execAddAAtHL (s : State) : Out := opAlu .add .ind s

/-- ADD A,A (R160). -/
def execAddAA (s : State) : Out := opAlu .add (.reg .a) s

/-- ADC A,B (R163). -/
def execAdcAB (s : State) : Out := opAlu .adc (.reg .b) s

/-- ADC A,C (R163). -/
def execAdcAC (s : State) : Out := opAlu .adc (.reg .c) s

/-- ADC A,D (R163). -/
def execAdcAD (s : State) : Out := opAlu .adc (.reg .d) s

/-- ADC A,E (R163). -/
def execAdcAE (s : State) : Out := opAlu .adc (.reg .e) s

/-- ADC A,H (R163). -/
def execAdcAH (s : State) : Out := opAlu .adc (.reg .h) s

/-- ADC A,L (R163). -/
def execAdcAL (s : State) : Out := opAlu .adc (.reg .l) s

/-- ADC A,(HL) (R164). -/
def execAdcAAtHL (s : State) : Out := opAlu .adc .ind s

/-- ADC A,A (R163). -/
def execAdcAA (s : State) : Out := opAlu .adc (.reg .a) s

/-- SUB B (R166). -/
def execSubB (s : State) : Out := opAlu .sub (.reg .b) s

/-- SUB C (R166). -/
def execSubC (s : State) : Out := opAlu .sub (.reg .c) s

/-- SUB D (R166). -/
def execSubD (s : State) : Out := opAlu .sub (.reg .d) s

/-- SUB E (R166). -/
def execSubE (s : State) : Out := opAlu .sub (.reg .e) s

/-- SUB H (R166). -/
def execSubH (s : State) : Out := opAlu .sub (.reg .h) s

/-- SUB L (R166). -/
def execSubL (s : State) : Out := opAlu .sub (.reg .l) s

/-- SUB (HL) (R167). -/
def execSubAtHL (s : State) : Out := opAlu .sub .ind s

/-- SUB A (R166). -/
def execSubA (s : State) : Out := opAlu .sub (.reg .a) s

/-- SBC A,B (R169). -/
def execSbcAB (s : State) : Out := opAlu .sbc (.reg .b) s

/-- SBC A,C (R169). -/
def execSbcAC (s : State) : Out := opAlu .sbc (.reg .c) s

/-- SBC A,D (R169). -/
def execSbcAD (s : State) : Out := opAlu .sbc (.reg .d) s

/-- SBC A,E (R169). -/
def execSbcAE (s : State) : Out := opAlu .sbc (.reg .e) s

/-- SBC A,H (R169). -/
def execSbcAH (s : State) : Out := opAlu .sbc (.reg .h) s

/-- SBC A,L (R169). -/
def execSbcAL (s : State) : Out := opAlu .sbc (.reg .l) s

/-- SBC A,(HL) (R170). -/
def execSbcAAtHL (s : State) : Out := opAlu .sbc .ind s

/-- SBC A,A (R169). -/
def execSbcAA (s : State) : Out := opAlu .sbc (.reg .a) s

/-- AND B (R172). -/
def execAndB (s : State) : Out := opAlu .and (.reg .b) s

/-- AND C (R172). -/
def execAndC (s : State) : Out := opAlu .and (.reg .c) s

/-- AND D (R172). -/
def execAndD (s : State) : Out := opAlu .and (.reg .d) s

/-- AND E (R172). -/
def execAndE (s : State) : Out := opAlu .and (.reg .e) s

/-- AND H (R172). -/
def execAndH (s : State) : Out := opAlu .and (.reg .h) s

/-- AND L (R172). -/
def execAndL (s : State) : Out := opAlu .and (.reg .l) s

/-- AND (HL) (R173). -/
def execAndAtHL (s : State) : Out := opAlu .and .ind s

/-- AND A (R172). -/
def execAndA (s : State) : Out := opAlu .and (.reg .a) s

/-- XOR B (R175). -/
def execXorB (s : State) : Out := opAlu .xor (.reg .b) s

/-- XOR C (R175). -/
def execXorC (s : State) : Out := opAlu .xor (.reg .c) s

/-- XOR D (R175). -/
def execXorD (s : State) : Out := opAlu .xor (.reg .d) s

/-- XOR E (R175). -/
def execXorE (s : State) : Out := opAlu .xor (.reg .e) s

/-- XOR H (R175). -/
def execXorH (s : State) : Out := opAlu .xor (.reg .h) s

/-- XOR L (R175). -/
def execXorL (s : State) : Out := opAlu .xor (.reg .l) s

/-- XOR (HL) (R176). -/
def execXorAtHL (s : State) : Out := opAlu .xor .ind s

/-- XOR A (R175). -/
def execXorA (s : State) : Out := opAlu .xor (.reg .a) s

/-- OR B (R178). -/
def execOrB (s : State) : Out := opAlu .or (.reg .b) s

/-- OR C (R178). -/
def execOrC (s : State) : Out := opAlu .or (.reg .c) s

/-- OR D (R178). -/
def execOrD (s : State) : Out := opAlu .or (.reg .d) s

/-- OR E (R178). -/
def execOrE (s : State) : Out := opAlu .or (.reg .e) s

/-- OR H (R178). -/
def execOrH (s : State) : Out := opAlu .or (.reg .h) s

/-- OR L (R178). -/
def execOrL (s : State) : Out := opAlu .or (.reg .l) s

/-- OR (HL) (R179). -/
def execOrAtHL (s : State) : Out := opAlu .or .ind s

/-- OR A (R178). -/
def execOrA (s : State) : Out := opAlu .or (.reg .a) s

/-- CP B (R181). -/
def execCpB (s : State) : Out := opAlu .cp (.reg .b) s

/-- CP C (R181). -/
def execCpC (s : State) : Out := opAlu .cp (.reg .c) s

/-- CP D (R181). -/
def execCpD (s : State) : Out := opAlu .cp (.reg .d) s

/-- CP E (R181). -/
def execCpE (s : State) : Out := opAlu .cp (.reg .e) s

/-- CP H (R181). -/
def execCpH (s : State) : Out := opAlu .cp (.reg .h) s

/-- CP L (R181). -/
def execCpL (s : State) : Out := opAlu .cp (.reg .l) s

/-- CP (HL) (R182). -/
def execCpAtHL (s : State) : Out := opAlu .cp .ind s

/-- CP A (R181). -/
def execCpA (s : State) : Out := opAlu .cp (.reg .a) s

/-- ADD A,d8 (R162). -/
def execAddAImm (v : Byte) (s : State) : Out := opAlu .add (.imm v) s

/-- ADC A,d8 (R165). -/
def execAdcAImm (v : Byte) (s : State) : Out := opAlu .adc (.imm v) s

/-- SUB d8 (R168). -/
def execSubImm (v : Byte) (s : State) : Out := opAlu .sub (.imm v) s

/-- SBC A,d8 (R171). -/
def execSbcAImm (v : Byte) (s : State) : Out := opAlu .sbc (.imm v) s

/-- AND d8 (R174). -/
def execAndImm (v : Byte) (s : State) : Out := opAlu .and (.imm v) s

/-- XOR d8 (R177). -/
def execXorImm (v : Byte) (s : State) : Out := opAlu .xor (.imm v) s

/-- OR d8 (R180). -/
def execOrImm (v : Byte) (s : State) : Out := opAlu .or (.imm v) s

/-- CP d8 (R183). -/
def execCpImm (v : Byte) (s : State) : Out := opAlu .cp (.imm v) s

end Sys2Proof.Machine
end

