-- ==== Sys2Proof/Machine/CbShift.lean ====
section
/-! DEFINITION. The secondary space's rotates and shifts (46_cb_shift_bit.md section 2). -/

namespace Sys2Proof.Machine

/-- `RLC`, `RRC`, `RL`, `RR`, `SLA`, `SRA`, `SWAP`, `SRL` on a register or the byte at HL (R210 to R226): one read, one
write, then the flags. -/
def opShift (op : ShiftOp) (x : Loc8) (s : State) : Out :=
  orFault (readLoc s x) fun r =>
    orFault (writeLoc r.2 x (shiftResult op r.1 s.flags.c).1) fun t =>
      .next { t with flags := shiftFlags (shiftResult op r.1 s.flags.c).1 (shiftResult op r.1 s.flags.c).2 }

/-- RLC B (R211). -/
def execRlcB (s : State) : Out := opShift .rlc (.reg .b) s

/-- RLC C (R211). -/
def execRlcC (s : State) : Out := opShift .rlc (.reg .c) s

/-- RLC D (R211). -/
def execRlcD (s : State) : Out := opShift .rlc (.reg .d) s

/-- RLC E (R211). -/
def execRlcE (s : State) : Out := opShift .rlc (.reg .e) s

/-- RLC H (R211). -/
def execRlcH (s : State) : Out := opShift .rlc (.reg .h) s

/-- RLC L (R211). -/
def execRlcL (s : State) : Out := opShift .rlc (.reg .l) s

/-- RLC (HL) (R212). -/
def execRlcAtHL (s : State) : Out := opShift .rlc .ind s

/-- RLC A (R211). -/
def execRlcA (s : State) : Out := opShift .rlc (.reg .a) s

/-- RRC B (R213). -/
def execRrcB (s : State) : Out := opShift .rrc (.reg .b) s

/-- RRC C (R213). -/
def execRrcC (s : State) : Out := opShift .rrc (.reg .c) s

/-- RRC D (R213). -/
def execRrcD (s : State) : Out := opShift .rrc (.reg .d) s

/-- RRC E (R213). -/
def execRrcE (s : State) : Out := opShift .rrc (.reg .e) s

/-- RRC H (R213). -/
def execRrcH (s : State) : Out := opShift .rrc (.reg .h) s

/-- RRC L (R213). -/
def execRrcL (s : State) : Out := opShift .rrc (.reg .l) s

/-- RRC (HL) (R214). -/
def execRrcAtHL (s : State) : Out := opShift .rrc .ind s

/-- RRC A (R213). -/
def execRrcA (s : State) : Out := opShift .rrc (.reg .a) s

/-- RL B (R215). -/
def execRlB (s : State) : Out := opShift .rl (.reg .b) s

/-- RL C (R215). -/
def execRlC (s : State) : Out := opShift .rl (.reg .c) s

/-- RL D (R215). -/
def execRlD (s : State) : Out := opShift .rl (.reg .d) s

/-- RL E (R215). -/
def execRlE (s : State) : Out := opShift .rl (.reg .e) s

/-- RL H (R215). -/
def execRlH (s : State) : Out := opShift .rl (.reg .h) s

/-- RL L (R215). -/
def execRlL (s : State) : Out := opShift .rl (.reg .l) s

/-- RL (HL) (R216). -/
def execRlAtHL (s : State) : Out := opShift .rl .ind s

/-- RL A (R215). -/
def execRlA (s : State) : Out := opShift .rl (.reg .a) s

/-- RR B (R217). -/
def execRrB (s : State) : Out := opShift .rr (.reg .b) s

/-- RR C (R217). -/
def execRrC (s : State) : Out := opShift .rr (.reg .c) s

/-- RR D (R217). -/
def execRrD (s : State) : Out := opShift .rr (.reg .d) s

/-- RR E (R217). -/
def execRrE (s : State) : Out := opShift .rr (.reg .e) s

/-- RR H (R217). -/
def execRrH (s : State) : Out := opShift .rr (.reg .h) s

/-- RR L (R217). -/
def execRrL (s : State) : Out := opShift .rr (.reg .l) s

/-- RR (HL) (R218). -/
def execRrAtHL (s : State) : Out := opShift .rr .ind s

/-- RR A (R217). -/
def execRrA (s : State) : Out := opShift .rr (.reg .a) s

/-- SLA B (R219). -/
def execSlaB (s : State) : Out := opShift .sla (.reg .b) s

/-- SLA C (R219). -/
def execSlaC (s : State) : Out := opShift .sla (.reg .c) s

/-- SLA D (R219). -/
def execSlaD (s : State) : Out := opShift .sla (.reg .d) s

/-- SLA E (R219). -/
def execSlaE (s : State) : Out := opShift .sla (.reg .e) s

/-- SLA H (R219). -/
def execSlaH (s : State) : Out := opShift .sla (.reg .h) s

/-- SLA L (R219). -/
def execSlaL (s : State) : Out := opShift .sla (.reg .l) s

/-- SLA (HL) (R220). -/
def execSlaAtHL (s : State) : Out := opShift .sla .ind s

/-- SLA A (R219). -/
def execSlaA (s : State) : Out := opShift .sla (.reg .a) s

/-- SRA B (R221). -/
def execSraB (s : State) : Out := opShift .sra (.reg .b) s

/-- SRA C (R221). -/
def execSraC (s : State) : Out := opShift .sra (.reg .c) s

/-- SRA D (R221). -/
def execSraD (s : State) : Out := opShift .sra (.reg .d) s

/-- SRA E (R221). -/
def execSraE (s : State) : Out := opShift .sra (.reg .e) s

/-- SRA H (R221). -/
def execSraH (s : State) : Out := opShift .sra (.reg .h) s

/-- SRA L (R221). -/
def execSraL (s : State) : Out := opShift .sra (.reg .l) s

/-- SRA (HL) (R222). -/
def execSraAtHL (s : State) : Out := opShift .sra .ind s

/-- SRA A (R221). -/
def execSraA (s : State) : Out := opShift .sra (.reg .a) s

/-- SWAP B (R223). -/
def execSwapB (s : State) : Out := opShift .swap (.reg .b) s

/-- SWAP C (R223). -/
def execSwapC (s : State) : Out := opShift .swap (.reg .c) s

/-- SWAP D (R223). -/
def execSwapD (s : State) : Out := opShift .swap (.reg .d) s

/-- SWAP E (R223). -/
def execSwapE (s : State) : Out := opShift .swap (.reg .e) s

/-- SWAP H (R223). -/
def execSwapH (s : State) : Out := opShift .swap (.reg .h) s

/-- SWAP L (R223). -/
def execSwapL (s : State) : Out := opShift .swap (.reg .l) s

/-- SWAP (HL) (R224). -/
def execSwapAtHL (s : State) : Out := opShift .swap .ind s

/-- SWAP A (R223). -/
def execSwapA (s : State) : Out := opShift .swap (.reg .a) s

/-- SRL B (R225). -/
def execSrlB (s : State) : Out := opShift .srl (.reg .b) s

/-- SRL C (R225). -/
def execSrlC (s : State) : Out := opShift .srl (.reg .c) s

/-- SRL D (R225). -/
def execSrlD (s : State) : Out := opShift .srl (.reg .d) s

/-- SRL E (R225). -/
def execSrlE (s : State) : Out := opShift .srl (.reg .e) s

/-- SRL H (R225). -/
def execSrlH (s : State) : Out := opShift .srl (.reg .h) s

/-- SRL L (R225). -/
def execSrlL (s : State) : Out := opShift .srl (.reg .l) s

/-- SRL (HL) (R226). -/
def execSrlAtHL (s : State) : Out := opShift .srl .ind s

/-- SRL A (R225). -/
def execSrlA (s : State) : Out := opShift .srl (.reg .a) s

end Sys2Proof.Machine
end

