-- ==== Sys2Proof/Machine/Control.lean ====
section
/-! DEFINITION. Control transfers (47_control.md). On entry PC is the address of the next instruction. -/

namespace Sys2Proof.Machine

/-- `JP a16` (R236). -/
def opJp (w : Word) (s : State) : Out := .next (s.jump w)

/-- `JP cc,a16` (R237). -/
def opJpCC (cc : Cond) (w : Word) (s : State) : Out := if condHolds cc s.flags then opJp w s else .next s

/-- `JP HL` (R238): HL is the target, no memory is read. -/
def opJpHL (s : State) : Out := .next (s.jump s.hl)

/-- `JR e8` (R239): relative to the address after the displacement byte. -/
def opJr (e : Byte) (s : State) : Out := .next (s.jump (s.pc + sext16 e))

/-- `JR cc,e8` (R240). -/
def opJrCC (cc : Cond) (e : Byte) (s : State) : Out := if condHolds cc s.flags then opJr e s else .next s

/-- `CALL a16` (R241). -/
def opCall (w : Word) (s : State) : Out := orFault (push16 s s.pc) fun t => .next (t.jump w)

/-- `CALL cc,a16` (R242). -/
def opCallCC (cc : Cond) (w : Word) (s : State) : Out := if condHolds cc s.flags then opCall w s else .next s

/-- `RET` (R243). -/
def opRet (s : State) : Out := orFault (pop16 s) fun r => .next (r.2.jump r.1)

/-- `RET cc` (R244). -/
def opRetCC (cc : Cond) (s : State) : Out := if condHolds cc s.flags then opRet s else .next s

/-- `RETI` (R245). -/
def opReti (s : State) : Out := returnFromInterrupt s

/-- `RST n` (R246). -/
def opRst (y : Fin 8) (s : State) : Out := orFault (push16 s s.pc) fun t => .next (t.jump (rstTarget y))

/-- JR e8 (R239). -/
def execJr (e : Byte) (s : State) : Out := opJr e s

/-- JR NZ,e8 (R240). -/
def execJrNZ (e : Byte) (s : State) : Out := opJrCC .nz e s

/-- JR Z,e8 (R240). -/
def execJrZ (e : Byte) (s : State) : Out := opJrCC .z e s

/-- JR NC,e8 (R240). -/
def execJrNC (e : Byte) (s : State) : Out := opJrCC .nc e s

/-- JR C,e8 (R240). -/
def execJrC (e : Byte) (s : State) : Out := opJrCC .c e s

/-- RET NZ (R244). -/
def execRetNZ (s : State) : Out := opRetCC .nz s

/-- JP NZ,a16 (R237). -/
def execJpNZ (w : Word) (s : State) : Out := opJpCC .nz w s

/-- JP a16 (R236). -/
def execJp (w : Word) (s : State) : Out := opJp w s

/-- CALL NZ,a16 (R242). -/
def execCallNZ (w : Word) (s : State) : Out := opCallCC .nz w s

/-- RST 00H (R246). -/
def execRst00 (s : State) : Out := opRst 0 s

/-- RET Z (R244). -/
def execRetZ (s : State) : Out := opRetCC .z s

/-- RET (R243). -/
def execRet (s : State) : Out := opRet s

/-- JP Z,a16 (R237). -/
def execJpZ (w : Word) (s : State) : Out := opJpCC .z w s

/-- CALL Z,a16 (R242). -/
def execCallZ (w : Word) (s : State) : Out := opCallCC .z w s

/-- CALL a16 (R241). -/
def execCall (w : Word) (s : State) : Out := opCall w s

/-- RST 08H (R246). -/
def execRst08 (s : State) : Out := opRst 1 s

/-- RET NC (R244). -/
def execRetNC (s : State) : Out := opRetCC .nc s

/-- JP NC,a16 (R237). -/
def execJpNC (w : Word) (s : State) : Out := opJpCC .nc w s

/-- CALL NC,a16 (R242). -/
def execCallNC (w : Word) (s : State) : Out := opCallCC .nc w s

/-- RST 10H (R246). -/
def execRst10 (s : State) : Out := opRst 2 s

/-- RET C (R244). -/
def execRetC (s : State) : Out := opRetCC .c s

/-- RETI (R245). -/
def execReti (s : State) : Out := opReti s

/-- JP C,a16 (R237). -/
def execJpC (w : Word) (s : State) : Out := opJpCC .c w s

/-- CALL C,a16 (R242). -/
def execCallC (w : Word) (s : State) : Out := opCallCC .c w s

/-- RST 18H (R246). -/
def execRst18 (s : State) : Out := opRst 3 s

/-- RST 20H (R246). -/
def execRst20 (s : State) : Out := opRst 4 s

/-- JP HL (R238). -/
def execJpHL (s : State) : Out := opJpHL s

/-- RST 28H (R246). -/
def execRst28 (s : State) : Out := opRst 5 s

/-- RST 30H (R246). -/
def execRst30 (s : State) : Out := opRst 6 s

/-- RST 38H (R246). -/
def execRst38 (s : State) : Out := opRst 7 s

end Sys2Proof.Machine
end

