-- ==== Sys2Proof/Machine/Load16.lean ====
section
/-! DEFINITION. 16-bit transfers (42_load16.md). -/

namespace Sys2Proof.Machine

/-- `LD rr,d16` (R140). -/
def opLdPairImm (p : Pair) (w : Word) (s : State) : Out := .next (s.setPair p w)

/-- `LD (a16),SP` (R141). -/
def opLdAbsSP (w : Word) (s : State) : Out := orFault (memWrite16 s w s.sp) .next

/-- `LD SP,HL` (R142). -/
def opLdSPHL (s : State) : Out := .next { s with sp := s.hl }

/-- `PUSH rr` (R143). -/
def opPush (p : StackPair) (s : State) : Out := orFault (push16 s (s.getStackPair p)) .next

/-- `POP rr` and `POP AF` (R144, R145). -/
def opPop (p : StackPair) (s : State) : Out := orFault (pop16 s) fun x => .next (x.2.setStackPair p x.1)

/-- `LD HL,SP+e8` (R146). -/
def opLdHLSPOff (e : Byte) (s : State) : Out :=
  .next { s.setHL (spAdd s.sp e).1 with flags := (spAdd s.sp e).2 }

/-- LD BC,d16 (R140). -/
def execLdBCImm (w : Word) (s : State) : Out := opLdPairImm .bc w s

/-- LD (a16),SP (R141). -/
def execLdAtAbsSP (w : Word) (s : State) : Out := opLdAbsSP w s

/-- LD DE,d16 (R140). -/
def execLdDEImm (w : Word) (s : State) : Out := opLdPairImm .de w s

/-- LD HL,d16 (R140). -/
def execLdHLImm (w : Word) (s : State) : Out := opLdPairImm .hl w s

/-- LD SP,d16 (R140). -/
def execLdSPImm (w : Word) (s : State) : Out := opLdPairImm .sp w s

/-- POP BC (R144). -/
def execPopBC (s : State) : Out := opPop .bc s

/-- PUSH BC (R143). -/
def execPushBC (s : State) : Out := opPush .bc s

/-- POP DE (R144). -/
def execPopDE (s : State) : Out := opPop .de s

/-- PUSH DE (R143). -/
def execPushDE (s : State) : Out := opPush .de s

/-- POP HL (R144). -/
def execPopHL (s : State) : Out := opPop .hl s

/-- PUSH HL (R143). -/
def execPushHL (s : State) : Out := opPush .hl s

/-- POP AF (R145). -/
def execPopAF (s : State) : Out := opPop .af s

/-- PUSH AF (R143). -/
def execPushAF (s : State) : Out := opPush .af s

/-- LD HL,SP+e8 (R146). -/
def execLdHLSPOff (e : Byte) (s : State) : Out := opLdHLSPOff e s

/-- LD SP,HL (R142). -/
def execLdSPHL (s : State) : Out := opLdSPHL s

end Sys2Proof.Machine
end

