-- ==== Sys2Proof/Machine/Load8.lean ====
section
/-! DEFINITION. 8-bit transfers (41_load8.md). No instruction here writes a flag (R120). -/

namespace Sys2Proof.Machine

/-- `LD r,r'` (R121). -/
def opLdRegReg (dst src : Reg8) (s : State) : Out := .next (s.setReg dst (s.getReg src))

/-- `LD r,d8` (R122). -/
def opLdRegImm (dst : Reg8) (v : Byte) (s : State) : Out := .next (s.setReg dst v)

/-- `LD r,(HL)` (R123): the address is the old HL. -/
def opLdRegInd (dst : Reg8) (s : State) : Out :=
  orFault (memRead s s.hl .read) fun x => .next (x.2.setReg dst x.1)

/-- `LD (HL),r` (R124). -/
def opLdIndReg (src : Reg8) (s : State) : Out := orFault (memWrite s s.hl (s.getReg src)) .next

/-- `LD (HL),d8` (R125). -/
def opLdIndImm (v : Byte) (s : State) : Out := orFault (memWrite s s.hl v) .next

/-- `LD A,(BC)`, `LD A,(DE)`, `LD A,(HL+)`, `LD A,(HL-)` (R126, R127, R132, R133): HL moves after the access. -/
def opLdAPtr (p : Ptr) (s : State) : Out :=
  orFault (memRead s (s.ptrAddr p) .read) fun x => .next ({ x.2 with a := x.1 }.ptrAdjust p)

/-- `LD (BC),A`, `LD (DE),A`, `LD (HL+),A`, `LD (HL-),A` (R128 to R131): HL moves after the access. -/
def opLdPtrA (p : Ptr) (s : State) : Out :=
  orFault (memWrite s (s.ptrAddr p) s.a) fun t => .next (t.ptrAdjust p)

/-- `LD (a16),A` (R134). -/
def opLdAbsA (w : Word) (s : State) : Out := orFault (memWrite s w s.a) .next

/-- `LD A,(a16)` (R135). -/
def opLdAAbs (w : Word) (s : State) : Out := orFault (memRead s w .read) fun x => .next { x.2 with a := x.1 }

/-- `LDH (a8),A` (R136). -/
def opLdhPageA (n : Byte) (s : State) : Out := orFault (memWrite s (highPage n) s.a) .next

/-- `LDH A,(a8)` (R137). -/
def opLdhAPage (n : Byte) (s : State) : Out :=
  orFault (memRead s (highPage n) .read) fun x => .next { x.2 with a := x.1 }

/-- `LD (C),A` (R138). -/
def opLdhCA (s : State) : Out := orFault (memWrite s (highPage s.c) s.a) .next

/-- `LD A,(C)` (R139). -/
def opLdhAC (s : State) : Out := orFault (memRead s (highPage s.c) .read) fun x => .next { x.2 with a := x.1 }

/-- LD (BC),A (R128). -/
def execLdAtBCA (s : State) : Out := opLdPtrA .bc s

/-- LD B,d8 (R122). -/
def execLdBImm (v : Byte) (s : State) : Out := opLdRegImm .b v s

/-- LD A,(BC) (R126). -/
def execLdAAtBC (s : State) : Out := opLdAPtr .bc s

/-- LD C,d8 (R122). -/
def execLdCImm (v : Byte) (s : State) : Out := opLdRegImm .c v s

/-- LD (DE),A (R129). -/
def execLdAtDEA (s : State) : Out := opLdPtrA .de s

/-- LD D,d8 (R122). -/
def execLdDImm (v : Byte) (s : State) : Out := opLdRegImm .d v s

/-- LD A,(DE) (R127). -/
def execLdAAtDE (s : State) : Out := opLdAPtr .de s

/-- LD E,d8 (R122). -/
def execLdEImm (v : Byte) (s : State) : Out := opLdRegImm .e v s

/-- LD (HL+),A (R130). -/
def execLdAtHLIncA (s : State) : Out := opLdPtrA .hlInc s

/-- LD H,d8 (R122). -/
def execLdHImm (v : Byte) (s : State) : Out := opLdRegImm .h v s

/-- LD A,(HL+) (R132). -/
def execLdAAtHLInc (s : State) : Out := opLdAPtr .hlInc s

/-- LD L,d8 (R122). -/
def execLdLImm (v : Byte) (s : State) : Out := opLdRegImm .l v s

/-- LD (HL-),A (R131). -/
def execLdAtHLDecA (s : State) : Out := opLdPtrA .hlDec s

/-- LD (HL),d8 (R125). -/
def execLdAtHLImm (v : Byte) (s : State) : Out := opLdIndImm v s

/-- LD A,(HL-) (R133). -/
def execLdAAtHLDec (s : State) : Out := opLdAPtr .hlDec s

/-- LD A,d8 (R122). -/
def execLdAImm (v : Byte) (s : State) : Out := opLdRegImm .a v s

/-- LD B,B (R121). -/
def execLdBB (s : State) : Out := opLdRegReg .b .b s

/-- LD B,C (R121). -/
def execLdBC (s : State) : Out := opLdRegReg .b .c s

/-- LD B,D (R121). -/
def execLdBD (s : State) : Out := opLdRegReg .b .d s

/-- LD B,E (R121). -/
def execLdBE (s : State) : Out := opLdRegReg .b .e s

/-- LD B,H (R121). -/
def execLdBH (s : State) : Out := opLdRegReg .b .h s

/-- LD B,L (R121). -/
def execLdBL (s : State) : Out := opLdRegReg .b .l s

/-- LD B,(HL) (R123). -/
def execLdBAtHL (s : State) : Out := opLdRegInd .b s

/-- LD B,A (R121). -/
def execLdBA (s : State) : Out := opLdRegReg .b .a s

/-- LD C,B (R121). -/
def execLdCB (s : State) : Out := opLdRegReg .c .b s

/-- LD C,C (R121). -/
def execLdCC (s : State) : Out := opLdRegReg .c .c s

/-- LD C,D (R121). -/
def execLdCD (s : State) : Out := opLdRegReg .c .d s

/-- LD C,E (R121). -/
def execLdCE (s : State) : Out := opLdRegReg .c .e s

/-- LD C,H (R121). -/
def execLdCH (s : State) : Out := opLdRegReg .c .h s

/-- LD C,L (R121). -/
def execLdCL (s : State) : Out := opLdRegReg .c .l s

/-- LD C,(HL) (R123). -/
def execLdCAtHL (s : State) : Out := opLdRegInd .c s

/-- LD C,A (R121). -/
def execLdCA (s : State) : Out := opLdRegReg .c .a s

/-- LD D,B (R121). -/
def execLdDB (s : State) : Out := opLdRegReg .d .b s

/-- LD D,C (R121). -/
def execLdDC (s : State) : Out := opLdRegReg .d .c s

/-- LD D,D (R121). -/
def execLdDD (s : State) : Out := opLdRegReg .d .d s

/-- LD D,E (R121). -/
def execLdDE (s : State) : Out := opLdRegReg .d .e s

/-- LD D,H (R121). -/
def execLdDH (s : State) : Out := opLdRegReg .d .h s

/-- LD D,L (R121). -/
def execLdDL (s : State) : Out := opLdRegReg .d .l s

/-- LD D,(HL) (R123). -/
def execLdDAtHL (s : State) : Out := opLdRegInd .d s

/-- LD D,A (R121). -/
def execLdDA (s : State) : Out := opLdRegReg .d .a s

/-- LD E,B (R121). -/
def execLdEB (s : State) : Out := opLdRegReg .e .b s

/-- LD E,C (R121). -/
def execLdEC (s : State) : Out := opLdRegReg .e .c s

/-- LD E,D (R121). -/
def execLdED (s : State) : Out := opLdRegReg .e .d s

/-- LD E,E (R121). -/
def execLdEE (s : State) : Out := opLdRegReg .e .e s

/-- LD E,H (R121). -/
def execLdEH (s : State) : Out := opLdRegReg .e .h s

/-- LD E,L (R121). -/
def execLdEL (s : State) : Out := opLdRegReg .e .l s

/-- LD E,(HL) (R123). -/
def execLdEAtHL (s : State) : Out := opLdRegInd .e s

/-- LD E,A (R121). -/
def execLdEA (s : State) : Out := opLdRegReg .e .a s

/-- LD H,B (R121). -/
def execLdHB (s : State) : Out := opLdRegReg .h .b s

/-- LD H,C (R121). -/
def execLdHC (s : State) : Out := opLdRegReg .h .c s

/-- LD H,D (R121). -/
def execLdHD (s : State) : Out := opLdRegReg .h .d s

/-- LD H,E (R121). -/
def execLdHE (s : State) : Out := opLdRegReg .h .e s

/-- LD H,H (R121). -/
def execLdHH (s : State) : Out := opLdRegReg .h .h s

/-- LD H,L (R121). -/
def execLdHL (s : State) : Out := opLdRegReg .h .l s

/-- LD H,(HL) (R123). -/
def execLdHAtHL (s : State) : Out := opLdRegInd .h s

/-- LD H,A (R121). -/
def execLdHA (s : State) : Out := opLdRegReg .h .a s

/-- LD L,B (R121). -/
def execLdLB (s : State) : Out := opLdRegReg .l .b s

/-- LD L,C (R121). -/
def execLdLC (s : State) : Out := opLdRegReg .l .c s

/-- LD L,D (R121). -/
def execLdLD (s : State) : Out := opLdRegReg .l .d s

/-- LD L,E (R121). -/
def execLdLE (s : State) : Out := opLdRegReg .l .e s

/-- LD L,H (R121). -/
def execLdLH (s : State) : Out := opLdRegReg .l .h s

/-- LD L,L (R121). -/
def execLdLL (s : State) : Out := opLdRegReg .l .l s

/-- LD L,(HL) (R123). -/
def execLdLAtHL (s : State) : Out := opLdRegInd .l s

/-- LD L,A (R121). -/
def execLdLA (s : State) : Out := opLdRegReg .l .a s

/-- LD (HL),B (R124). -/
def execLdAtHLB (s : State) : Out := opLdIndReg .b s

/-- LD (HL),C (R124). -/
def execLdAtHLC (s : State) : Out := opLdIndReg .c s

/-- LD (HL),D (R124). -/
def execLdAtHLD (s : State) : Out := opLdIndReg .d s

/-- LD (HL),E (R124). -/
def execLdAtHLE (s : State) : Out := opLdIndReg .e s

/-- LD (HL),H (R124). -/
def execLdAtHLH (s : State) : Out := opLdIndReg .h s

/-- LD (HL),L (R124). -/
def execLdAtHLL (s : State) : Out := opLdIndReg .l s

/-- LD (HL),A (R124). -/
def execLdAtHLA (s : State) : Out := opLdIndReg .a s

/-- LD A,B (R121). -/
def execLdAB (s : State) : Out := opLdRegReg .a .b s

/-- LD A,C (R121). -/
def execLdAC (s : State) : Out := opLdRegReg .a .c s

/-- LD A,D (R121). -/
def execLdAD (s : State) : Out := opLdRegReg .a .d s

/-- LD A,E (R121). -/
def execLdAE (s : State) : Out := opLdRegReg .a .e s

/-- LD A,H (R121). -/
def execLdAH (s : State) : Out := opLdRegReg .a .h s

/-- LD A,L (R121). -/
def execLdAL (s : State) : Out := opLdRegReg .a .l s

/-- LD A,(HL) (R123). -/
def execLdAAtHL (s : State) : Out := opLdRegInd .a s

/-- LD A,A (R121). -/
def execLdAA (s : State) : Out := opLdRegReg .a .a s

/-- LDH (a8),A (R136). -/
def execLdhAtPageA (n : Byte) (s : State) : Out := opLdhPageA n s

/-- LD (C),A (R138). -/
def execLdAtCA (s : State) : Out := opLdhCA s

/-- LD (a16),A (R134). -/
def execLdAtAbsA (w : Word) (s : State) : Out := opLdAbsA w s

/-- LDH A,(a8) (R137). -/
def execLdhAAtPage (n : Byte) (s : State) : Out := opLdhAPage n s

/-- LD A,(C) (R139). -/
def execLdAAtC (s : State) : Out := opLdhAC s

/-- LD A,(a16) (R135). -/
def execLdAAtAbs (w : Word) (s : State) : Out := opLdAAbs w s

end Sys2Proof.Machine
end

