-- ==== Sys2Proof/Machine/Rotate.lean ====
section
/-! DEFINITION. Accumulator rotates, decimal adjust and flag-only operations (45_rotate_misc.md). -/

namespace Sys2Proof.Machine

/-- The accumulator rotates share a shape (R200 to R203): A and C from the rotate, Z = N = H = 0. -/
def rotateA (op : ShiftOp) (s : State) : Out :=
  .next { s with a := (shiftResult op s.a s.flags.c).1, flags := accRotateFlags (shiftResult op s.a s.flags.c).2 }

/-- `RLCA` (R200). -/
def opRlca (s : State) : Out := rotateA .rlc s

/-- `RRCA` (R201). -/
def opRrca (s : State) : Out := rotateA .rrc s

/-- `RLA` (R202). -/
def opRla (s : State) : Out := rotateA .rl s

/-- `RRA` (R203). -/
def opRra (s : State) : Out := rotateA .rr s

/-- `DAA` (R204). -/
def opDaa (s : State) : Out := .next { s with a := (daaResult s.a s.flags).1, flags := (daaResult s.a s.flags).2 }

/-- `CPL` (R205). -/
def opCpl (s : State) : Out := .next { s with a := ~~~s.a, flags := { s.flags with n := true, h := true } }

/-- `SCF` (R206). -/
def opScf (s : State) : Out := .next { s with flags := { s.flags with n := false, h := false, c := true } }

/-- `CCF` (R207). -/
def opCcf (s : State) : Out := .next { s with flags := { s.flags with n := false, h := false, c := !s.flags.c } }

/-- `NOP` (R208). -/
def opNop (s : State) : Out := .next s

/-- NOP (R208). -/
def execNop (s : State) : Out := opNop s

/-- RLCA (R200). -/
def execRlca (s : State) : Out := opRlca s

/-- RRCA (R201). -/
def execRrca (s : State) : Out := opRrca s

/-- RLA (R202). -/
def execRla (s : State) : Out := opRla s

/-- RRA (R203). -/
def execRra (s : State) : Out := opRra s

/-- DAA (R204). -/
def execDaa (s : State) : Out := opDaa s

/-- CPL (R205). -/
def execCpl (s : State) : Out := opCpl s

/-- SCF (R206). -/
def execScf (s : State) : Out := opScf s

/-- CCF (R207). -/
def execCcf (s : State) : Out := opCcf s

end Sys2Proof.Machine
end

