-- ==== Sys2Proof/Machine/System.lean ====
section
/-! DEFINITION. Power and interrupt-enable instructions (48_system.md), and the illegal opcodes (40_dispatch.md R106). -/

namespace Sys2Proof.Machine

/-- `HALT` (R250). -/
def opHalt (s : State) : Out := .next { s with halted := true }

/-- `STOP` (R251); the ignored byte has been fetched with the instruction (log entry 8). -/
def opStop (s : State) : Out := .next { s with stopped := true }

/-- `DI` (R252). -/
def opDi (s : State) : Out := .next { s with ime := false, imePending := false }

/-- `EI` (R253). -/
def opEi (s : State) : Out := .next { s with imePending := true }

/-- An illegal opcode (R84, R106, R261): MalformedOpcode, with the address of the opcode byte, which PC has just passed. -/
def opIllegal (op : Byte) (s : State) : Out := .fault (.malformedOpcode .primary op (s.pc - 1#16))

/-- STOP (R251). -/
def execStop (s : State) : Out := opStop s

/-- HALT (R250). -/
def execHalt (s : State) : Out := opHalt s

/-- ILLEGAL_D3 (R106). -/
def execIllegalD3 (s : State) : Out := opIllegal 0xD3 s

/-- ILLEGAL_DB (R106). -/
def execIllegalDB (s : State) : Out := opIllegal 0xDB s

/-- ILLEGAL_DD (R106). -/
def execIllegalDD (s : State) : Out := opIllegal 0xDD s

/-- ILLEGAL_E3 (R106). -/
def execIllegalE3 (s : State) : Out := opIllegal 0xE3 s

/-- ILLEGAL_E4 (R106). -/
def execIllegalE4 (s : State) : Out := opIllegal 0xE4 s

/-- ILLEGAL_EB (R106). -/
def execIllegalEB (s : State) : Out := opIllegal 0xEB s

/-- ILLEGAL_EC (R106). -/
def execIllegalEC (s : State) : Out := opIllegal 0xEC s

/-- ILLEGAL_ED (R106). -/
def execIllegalED (s : State) : Out := opIllegal 0xED s

/-- DI (R252). -/
def execDi (s : State) : Out := opDi s

/-- ILLEGAL_F4 (R106). -/
def execIllegalF4 (s : State) : Out := opIllegal 0xF4 s

/-- EI (R253). -/
def execEi (s : State) : Out := opEi s

/-- ILLEGAL_FC (R106). -/
def execIllegalFC (s : State) : Out := opIllegal 0xFC s

/-- ILLEGAL_FD (R106). -/
def execIllegalFD (s : State) : Out := opIllegal 0xFD s

end Sys2Proof.Machine
end

