-- ==== Sys2Proof/Machine/Forms.lean ====
section
/-! DEFINITION. The form of each row of the opcode table: its operand fields (30_encoding.md R72 to R80; opcode_table.json
`source_fields`), and the eleven illegal opcodes (R84). -/

namespace Sys2Proof

/-- The eleven primary opcodes that are not instructions (R84). -/
def illegalOpcodes : List Byte :=
  [0xD3, 0xDB, 0xDD, 0xE3, 0xE4, 0xEB, 0xEC, 0xED, 0xF4, 0xFC, 0xFD]

/-- The form of an instruction: which rule gives its meaning, with which operand fields. -/
def Instr.form : Instr → Form
  | .nop => .nop
  | .ldBCImm w => .ldPairImm .bc w
  | .ldAtBCA => .ldPtrA .bc
  | .incBC => .inc16 .bc
  | .incB => .inc8 (.reg .b)
  | .decB => .dec8 (.reg .b)
  | .ldBImm v => .ldRegImm .b v
  | .rlca => .rlca
  | .ldAtAbsSP w => .ldAbsSP w
  | .addHLBC => .addHL .bc
  | .ldAAtBC => .ldAPtr .bc
  | .decBC => .dec16 .bc
  | .incC => .inc8 (.reg .c)
  | .decC => .dec8 (.reg .c)
  | .ldCImm v => .ldRegImm .c v
  | .rrca => .rrca
  | .stop => .stop
  | .ldDEImm w => .ldPairImm .de w
  | .ldAtDEA => .ldPtrA .de
  | .incDE => .inc16 .de
  | .incD => .inc8 (.reg .d)
  | .decD => .dec8 (.reg .d)
  | .ldDImm v => .ldRegImm .d v
  | .rla => .rla
  | .jr e => .jr e
  | .addHLDE => .addHL .de
  | .ldAAtDE => .ldAPtr .de
  | .decDE => .dec16 .de
  | .incE => .inc8 (.reg .e)
  | .decE => .dec8 (.reg .e)
  | .ldEImm v => .ldRegImm .e v
  | .rra => .rra
  | .jrNZ e => .jrCC .nz e
  | .ldHLImm w => .ldPairImm .hl w
  | .ldAtHLIncA => .ldPtrA .hlInc
  | .incHL => .inc16 .hl
  | .incH => .inc8 (.reg .h)
  | .decH => .dec8 (.reg .h)
  | .ldHImm v => .ldRegImm .h v
  | .daa => .daa
  | .jrZ e => .jrCC .z e
  | .addHLHL => .addHL .hl
  | .ldAAtHLInc => .ldAPtr .hlInc
  | .decHL => .dec16 .hl
  | .incL => .inc8 (.reg .l)
  | .decL => .dec8 (.reg .l)
  | .ldLImm v => .ldRegImm .l v
  | .cpl => .cpl
  | .jrNC e => .jrCC .nc e
  | .ldSPImm w => .ldPairImm .sp w
  | .ldAtHLDecA => .ldPtrA .hlDec
  | .incSP => .inc16 .sp
  | .incAtHL => .inc8 .ind
  | .decAtHL => .dec8 .ind
  | .ldAtHLImm v => .ldIndImm v
  | .scf => .scf
  | .jrC e => .jrCC .c e
  | .addHLSP => .addHL .sp
  | .ldAAtHLDec => .ldAPtr .hlDec
  | .decSP => .dec16 .sp
  | .incA => .inc8 (.reg .a)
  | .decA => .dec8 (.reg .a)
  | .ldAImm v => .ldRegImm .a v
  | .ccf => .ccf
  | .ldBB => .ldRegReg .b .b
  | .ldBC => .ldRegReg .b .c
  | .ldBD => .ldRegReg .b .d
  | .ldBE => .ldRegReg .b .e
  | .ldBH => .ldRegReg .b .h
  | .ldBL => .ldRegReg .b .l
  | .ldBAtHL => .ldRegInd .b
  | .ldBA => .ldRegReg .b .a
  | .ldCB => .ldRegReg .c .b
  | .ldCC => .ldRegReg .c .c
  | .ldCD => .ldRegReg .c .d
  | .ldCE => .ldRegReg .c .e
  | .ldCH => .ldRegReg .c .h
  | .ldCL => .ldRegReg .c .l
  | .ldCAtHL => .ldRegInd .c
  | .ldCA => .ldRegReg .c .a
  | .ldDB => .ldRegReg .d .b
  | .ldDC => .ldRegReg .d .c
  | .ldDD => .ldRegReg .d .d
  | .ldDE => .ldRegReg .d .e
  | .ldDH => .ldRegReg .d .h
  | .ldDL => .ldRegReg .d .l
  | .ldDAtHL => .ldRegInd .d
  | .ldDA => .ldRegReg .d .a
  | .ldEB => .ldRegReg .e .b
  | .ldEC => .ldRegReg .e .c
  | .ldED => .ldRegReg .e .d
  | .ldEE => .ldRegReg .e .e
  | .ldEH => .ldRegReg .e .h
  | .ldEL => .ldRegReg .e .l
  | .ldEAtHL => .ldRegInd .e
  | .ldEA => .ldRegReg .e .a
  | .ldHB => .ldRegReg .h .b
  | .ldHC => .ldRegReg .h .c
  | .ldHD => .ldRegReg .h .d
  | .ldHE => .ldRegReg .h .e
  | .ldHH => .ldRegReg .h .h
  | .ldHL => .ldRegReg .h .l
  | .ldHAtHL => .ldRegInd .h
  | .ldHA => .ldRegReg .h .a
  | .ldLB => .ldRegReg .l .b
  | .ldLC => .ldRegReg .l .c
  | .ldLD => .ldRegReg .l .d
  | .ldLE => .ldRegReg .l .e
  | .ldLH => .ldRegReg .l .h
  | .ldLL => .ldRegReg .l .l
  | .ldLAtHL => .ldRegInd .l
  | .ldLA => .ldRegReg .l .a
  | .ldAtHLB => .ldIndReg .b
  | .ldAtHLC => .ldIndReg .c
  | .ldAtHLD => .ldIndReg .d
  | .ldAtHLE => .ldIndReg .e
  | .ldAtHLH => .ldIndReg .h
  | .ldAtHLL => .ldIndReg .l
  | .halt => .halt
  | .ldAtHLA => .ldIndReg .a
  | .ldAB => .ldRegReg .a .b
  | .ldAC => .ldRegReg .a .c
  | .ldAD => .ldRegReg .a .d
  | .ldAE => .ldRegReg .a .e
  | .ldAH => .ldRegReg .a .h
  | .ldAL => .ldRegReg .a .l
  | .ldAAtHL => .ldRegInd .a
  | .ldAA => .ldRegReg .a .a
  | .addAB => .alu .add (.reg .b)
  | .addAC => .alu .add (.reg .c)
  | .addAD => .alu .add (.reg .d)
  | .addAE => .alu .add (.reg .e)
  | .addAH => .alu .add (.reg .h)
  | .addAL => .alu .add (.reg .l)
  | .addAAtHL => .alu .add .ind
  | .addAA => .alu .add (.reg .a)
  | .adcAB => .alu .adc (.reg .b)
  | .adcAC => .alu .adc (.reg .c)
  | .adcAD => .alu .adc (.reg .d)
  | .adcAE => .alu .adc (.reg .e)
  | .adcAH => .alu .adc (.reg .h)
  | .adcAL => .alu .adc (.reg .l)
  | .adcAAtHL => .alu .adc .ind
  | .adcAA => .alu .adc (.reg .a)
  | .subB => .alu .sub (.reg .b)
  | .subC => .alu .sub (.reg .c)
  | .subD => .alu .sub (.reg .d)
  | .subE => .alu .sub (.reg .e)
  | .subH => .alu .sub (.reg .h)
  | .subL => .alu .sub (.reg .l)
  | .subAtHL => .alu .sub .ind
  | .subA => .alu .sub (.reg .a)
  | .sbcAB => .alu .sbc (.reg .b)
  | .sbcAC => .alu .sbc (.reg .c)
  | .sbcAD => .alu .sbc (.reg .d)
  | .sbcAE => .alu .sbc (.reg .e)
  | .sbcAH => .alu .sbc (.reg .h)
  | .sbcAL => .alu .sbc (.reg .l)
  | .sbcAAtHL => .alu .sbc .ind
  | .sbcAA => .alu .sbc (.reg .a)
  | .andB => .alu .and (.reg .b)
  | .andC => .alu .and (.reg .c)
  | .andD => .alu .and (.reg .d)
  | .andE => .alu .and (.reg .e)
  | .andH => .alu .and (.reg .h)
  | .andL => .alu .and (.reg .l)
  | .andAtHL => .alu .and .ind
  | .andA => .alu .and (.reg .a)
  | .xorB => .alu .xor (.reg .b)
  | .xorC => .alu .xor (.reg .c)
  | .xorD => .alu .xor (.reg .d)
  | .xorE => .alu .xor (.reg .e)
  | .xorH => .alu .xor (.reg .h)
  | .xorL => .alu .xor (.reg .l)
  | .xorAtHL => .alu .xor .ind
  | .xorA => .alu .xor (.reg .a)
  | .orB => .alu .or (.reg .b)
  | .orC => .alu .or (.reg .c)
  | .orD => .alu .or (.reg .d)
  | .orE => .alu .or (.reg .e)
  | .orH => .alu .or (.reg .h)
  | .orL => .alu .or (.reg .l)
  | .orAtHL => .alu .or .ind
  | .orA => .alu .or (.reg .a)
  | .cpB => .alu .cp (.reg .b)
  | .cpC => .alu .cp (.reg .c)
  | .cpD => .alu .cp (.reg .d)
  | .cpE => .alu .cp (.reg .e)
  | .cpH => .alu .cp (.reg .h)
  | .cpL => .alu .cp (.reg .l)
  | .cpAtHL => .alu .cp .ind
  | .cpA => .alu .cp (.reg .a)
  | .retNZ => .retCC .nz
  | .popBC => .pop .bc
  | .jpNZ w => .jpCC .nz w
  | .jp w => .jp w
  | .callNZ w => .callCC .nz w
  | .pushBC => .push .bc
  | .addAImm v => .alu .add (.imm v)
  | .rst00 => .rst 0
  | .retZ => .retCC .z
  | .ret => .ret
  | .jpZ w => .jpCC .z w
  | .callZ w => .callCC .z w
  | .call w => .call w
  | .adcAImm v => .alu .adc (.imm v)
  | .rst08 => .rst 1
  | .retNC => .retCC .nc
  | .popDE => .pop .de
  | .jpNC w => .jpCC .nc w
  | .illegalD3 => .illegal 0xD3
  | .callNC w => .callCC .nc w
  | .pushDE => .push .de
  | .subImm v => .alu .sub (.imm v)
  | .rst10 => .rst 2
  | .retC => .retCC .c
  | .reti => .reti
  | .jpC w => .jpCC .c w
  | .illegalDB => .illegal 0xDB
  | .callC w => .callCC .c w
  | .illegalDD => .illegal 0xDD
  | .sbcAImm v => .alu .sbc (.imm v)
  | .rst18 => .rst 3
  | .ldhAtPageA n => .ldhPageA n
  | .popHL => .pop .hl
  | .ldAtCA => .ldhCA
  | .illegalE3 => .illegal 0xE3
  | .illegalE4 => .illegal 0xE4
  | .pushHL => .push .hl
  | .andImm v => .alu .and (.imm v)
  | .rst20 => .rst 4
  | .addSPOff e => .addSPOff e
  | .jpHL => .jpHL
  | .ldAtAbsA w => .ldAbsA w
  | .illegalEB => .illegal 0xEB
  | .illegalEC => .illegal 0xEC
  | .illegalED => .illegal 0xED
  | .xorImm v => .alu .xor (.imm v)
  | .rst28 => .rst 5
  | .ldhAAtPage n => .ldhAPage n
  | .popAF => .pop .af
  | .ldAAtC => .ldhAC
  | .di => .di
  | .illegalF4 => .illegal 0xF4
  | .pushAF => .push .af
  | .orImm v => .alu .or (.imm v)
  | .rst30 => .rst 6
  | .ldHLSPOff e => .ldHLSPOff e
  | .ldSPHL => .ldSPHL
  | .ldAAtAbs w => .ldAAbs w
  | .ei => .ei
  | .illegalFC => .illegal 0xFC
  | .illegalFD => .illegal 0xFD
  | .cpImm v => .alu .cp (.imm v)
  | .rst38 => .rst 7
  | .rlcB => .shift .rlc (.reg .b)
  | .rlcC => .shift .rlc (.reg .c)
  | .rlcD => .shift .rlc (.reg .d)
  | .rlcE => .shift .rlc (.reg .e)
  | .rlcH => .shift .rlc (.reg .h)
  | .rlcL => .shift .rlc (.reg .l)
  | .rlcAtHL => .shift .rlc .ind
  | .rlcA => .shift .rlc (.reg .a)
  | .rrcB => .shift .rrc (.reg .b)
  | .rrcC => .shift .rrc (.reg .c)
  | .rrcD => .shift .rrc (.reg .d)
  | .rrcE => .shift .rrc (.reg .e)
  | .rrcH => .shift .rrc (.reg .h)
  | .rrcL => .shift .rrc (.reg .l)
  | .rrcAtHL => .shift .rrc .ind
  | .rrcA => .shift .rrc (.reg .a)
  | .rlB => .shift .rl (.reg .b)
  | .rlC => .shift .rl (.reg .c)
  | .rlD => .shift .rl (.reg .d)
  | .rlE => .shift .rl (.reg .e)
  | .rlH => .shift .rl (.reg .h)
  | .rlL => .shift .rl (.reg .l)
  | .rlAtHL => .shift .rl .ind
  | .rlA => .shift .rl (.reg .a)
  | .rrB => .shift .rr (.reg .b)
  | .rrC => .shift .rr (.reg .c)
  | .rrD => .shift .rr (.reg .d)
  | .rrE => .shift .rr (.reg .e)
  | .rrH => .shift .rr (.reg .h)
  | .rrL => .shift .rr (.reg .l)
  | .rrAtHL => .shift .rr .ind
  | .rrA => .shift .rr (.reg .a)
  | .slaB => .shift .sla (.reg .b)
  | .slaC => .shift .sla (.reg .c)
  | .slaD => .shift .sla (.reg .d)
  | .slaE => .shift .sla (.reg .e)
  | .slaH => .shift .sla (.reg .h)
  | .slaL => .shift .sla (.reg .l)
  | .slaAtHL => .shift .sla .ind
  | .slaA => .shift .sla (.reg .a)
  | .sraB => .shift .sra (.reg .b)
  | .sraC => .shift .sra (.reg .c)
  | .sraD => .shift .sra (.reg .d)
  | .sraE => .shift .sra (.reg .e)
  | .sraH => .shift .sra (.reg .h)
  | .sraL => .shift .sra (.reg .l)
  | .sraAtHL => .shift .sra .ind
  | .sraA => .shift .sra (.reg .a)
  | .swapB => .shift .swap (.reg .b)
  | .swapC => .shift .swap (.reg .c)
  | .swapD => .shift .swap (.reg .d)
  | .swapE => .shift .swap (.reg .e)
  | .swapH => .shift .swap (.reg .h)
  | .swapL => .shift .swap (.reg .l)
  | .swapAtHL => .shift .swap .ind
  | .swapA => .shift .swap (.reg .a)
  | .srlB => .shift .srl (.reg .b)
  | .srlC => .shift .srl (.reg .c)
  | .srlD => .shift .srl (.reg .d)
  | .srlE => .shift .srl (.reg .e)
  | .srlH => .shift .srl (.reg .h)
  | .srlL => .shift .srl (.reg .l)
  | .srlAtHL => .shift .srl .ind
  | .srlA => .shift .srl (.reg .a)
  | .bit0B => .bit 0 (.reg .b)
  | .bit0C => .bit 0 (.reg .c)
  | .bit0D => .bit 0 (.reg .d)
  | .bit0E => .bit 0 (.reg .e)
  | .bit0H => .bit 0 (.reg .h)
  | .bit0L => .bit 0 (.reg .l)
  | .bit0AtHL => .bit 0 .ind
  | .bit0A => .bit 0 (.reg .a)
  | .bit1B => .bit 1 (.reg .b)
  | .bit1C => .bit 1 (.reg .c)
  | .bit1D => .bit 1 (.reg .d)
  | .bit1E => .bit 1 (.reg .e)
  | .bit1H => .bit 1 (.reg .h)
  | .bit1L => .bit 1 (.reg .l)
  | .bit1AtHL => .bit 1 .ind
  | .bit1A => .bit 1 (.reg .a)
  | .bit2B => .bit 2 (.reg .b)
  | .bit2C => .bit 2 (.reg .c)
  | .bit2D => .bit 2 (.reg .d)
  | .bit2E => .bit 2 (.reg .e)
  | .bit2H => .bit 2 (.reg .h)
  | .bit2L => .bit 2 (.reg .l)
  | .bit2AtHL => .bit 2 .ind
  | .bit2A => .bit 2 (.reg .a)
  | .bit3B => .bit 3 (.reg .b)
  | .bit3C => .bit 3 (.reg .c)
  | .bit3D => .bit 3 (.reg .d)
  | .bit3E => .bit 3 (.reg .e)
  | .bit3H => .bit 3 (.reg .h)
  | .bit3L => .bit 3 (.reg .l)
  | .bit3AtHL => .bit 3 .ind
  | .bit3A => .bit 3 (.reg .a)
  | .bit4B => .bit 4 (.reg .b)
  | .bit4C => .bit 4 (.reg .c)
  | .bit4D => .bit 4 (.reg .d)
  | .bit4E => .bit 4 (.reg .e)
  | .bit4H => .bit 4 (.reg .h)
  | .bit4L => .bit 4 (.reg .l)
  | .bit4AtHL => .bit 4 .ind
  | .bit4A => .bit 4 (.reg .a)
  | .bit5B => .bit 5 (.reg .b)
  | .bit5C => .bit 5 (.reg .c)
  | .bit5D => .bit 5 (.reg .d)
  | .bit5E => .bit 5 (.reg .e)
  | .bit5H => .bit 5 (.reg .h)
  | .bit5L => .bit 5 (.reg .l)
  | .bit5AtHL => .bit 5 .ind
  | .bit5A => .bit 5 (.reg .a)
  | .bit6B => .bit 6 (.reg .b)
  | .bit6C => .bit 6 (.reg .c)
  | .bit6D => .bit 6 (.reg .d)
  | .bit6E => .bit 6 (.reg .e)
  | .bit6H => .bit 6 (.reg .h)
  | .bit6L => .bit 6 (.reg .l)
  | .bit6AtHL => .bit 6 .ind
  | .bit6A => .bit 6 (.reg .a)
  | .bit7B => .bit 7 (.reg .b)
  | .bit7C => .bit 7 (.reg .c)
  | .bit7D => .bit 7 (.reg .d)
  | .bit7E => .bit 7 (.reg .e)
  | .bit7H => .bit 7 (.reg .h)
  | .bit7L => .bit 7 (.reg .l)
  | .bit7AtHL => .bit 7 .ind
  | .bit7A => .bit 7 (.reg .a)
  | .res0B => .res 0 (.reg .b)
  | .res0C => .res 0 (.reg .c)
  | .res0D => .res 0 (.reg .d)
  | .res0E => .res 0 (.reg .e)
  | .res0H => .res 0 (.reg .h)
  | .res0L => .res 0 (.reg .l)
  | .res0AtHL => .res 0 .ind
  | .res0A => .res 0 (.reg .a)
  | .res1B => .res 1 (.reg .b)
  | .res1C => .res 1 (.reg .c)
  | .res1D => .res 1 (.reg .d)
  | .res1E => .res 1 (.reg .e)
  | .res1H => .res 1 (.reg .h)
  | .res1L => .res 1 (.reg .l)
  | .res1AtHL => .res 1 .ind
  | .res1A => .res 1 (.reg .a)
  | .res2B => .res 2 (.reg .b)
  | .res2C => .res 2 (.reg .c)
  | .res2D => .res 2 (.reg .d)
  | .res2E => .res 2 (.reg .e)
  | .res2H => .res 2 (.reg .h)
  | .res2L => .res 2 (.reg .l)
  | .res2AtHL => .res 2 .ind
  | .res2A => .res 2 (.reg .a)
  | .res3B => .res 3 (.reg .b)
  | .res3C => .res 3 (.reg .c)
  | .res3D => .res 3 (.reg .d)
  | .res3E => .res 3 (.reg .e)
  | .res3H => .res 3 (.reg .h)
  | .res3L => .res 3 (.reg .l)
  | .res3AtHL => .res 3 .ind
  | .res3A => .res 3 (.reg .a)
  | .res4B => .res 4 (.reg .b)
  | .res4C => .res 4 (.reg .c)
  | .res4D => .res 4 (.reg .d)
  | .res4E => .res 4 (.reg .e)
  | .res4H => .res 4 (.reg .h)
  | .res4L => .res 4 (.reg .l)
  | .res4AtHL => .res 4 .ind
  | .res4A => .res 4 (.reg .a)
  | .res5B => .res 5 (.reg .b)
  | .res5C => .res 5 (.reg .c)
  | .res5D => .res 5 (.reg .d)
  | .res5E => .res 5 (.reg .e)
  | .res5H => .res 5 (.reg .h)
  | .res5L => .res 5 (.reg .l)
  | .res5AtHL => .res 5 .ind
  | .res5A => .res 5 (.reg .a)
  | .res6B => .res 6 (.reg .b)
  | .res6C => .res 6 (.reg .c)
  | .res6D => .res 6 (.reg .d)
  | .res6E => .res 6 (.reg .e)
  | .res6H => .res 6 (.reg .h)
  | .res6L => .res 6 (.reg .l)
  | .res6AtHL => .res 6 .ind
  | .res6A => .res 6 (.reg .a)
  | .res7B => .res 7 (.reg .b)
  | .res7C => .res 7 (.reg .c)
  | .res7D => .res 7 (.reg .d)
  | .res7E => .res 7 (.reg .e)
  | .res7H => .res 7 (.reg .h)
  | .res7L => .res 7 (.reg .l)
  | .res7AtHL => .res 7 .ind
  | .res7A => .res 7 (.reg .a)
  | .set0B => .set 0 (.reg .b)
  | .set0C => .set 0 (.reg .c)
  | .set0D => .set 0 (.reg .d)
  | .set0E => .set 0 (.reg .e)
  | .set0H => .set 0 (.reg .h)
  | .set0L => .set 0 (.reg .l)
  | .set0AtHL => .set 0 .ind
  | .set0A => .set 0 (.reg .a)
  | .set1B => .set 1 (.reg .b)
  | .set1C => .set 1 (.reg .c)
  | .set1D => .set 1 (.reg .d)
  | .set1E => .set 1 (.reg .e)
  | .set1H => .set 1 (.reg .h)
  | .set1L => .set 1 (.reg .l)
  | .set1AtHL => .set 1 .ind
  | .set1A => .set 1 (.reg .a)
  | .set2B => .set 2 (.reg .b)
  | .set2C => .set 2 (.reg .c)
  | .set2D => .set 2 (.reg .d)
  | .set2E => .set 2 (.reg .e)
  | .set2H => .set 2 (.reg .h)
  | .set2L => .set 2 (.reg .l)
  | .set2AtHL => .set 2 .ind
  | .set2A => .set 2 (.reg .a)
  | .set3B => .set 3 (.reg .b)
  | .set3C => .set 3 (.reg .c)
  | .set3D => .set 3 (.reg .d)
  | .set3E => .set 3 (.reg .e)
  | .set3H => .set 3 (.reg .h)
  | .set3L => .set 3 (.reg .l)
  | .set3AtHL => .set 3 .ind
  | .set3A => .set 3 (.reg .a)
  | .set4B => .set 4 (.reg .b)
  | .set4C => .set 4 (.reg .c)
  | .set4D => .set 4 (.reg .d)
  | .set4E => .set 4 (.reg .e)
  | .set4H => .set 4 (.reg .h)
  | .set4L => .set 4 (.reg .l)
  | .set4AtHL => .set 4 .ind
  | .set4A => .set 4 (.reg .a)
  | .set5B => .set 5 (.reg .b)
  | .set5C => .set 5 (.reg .c)
  | .set5D => .set 5 (.reg .d)
  | .set5E => .set 5 (.reg .e)
  | .set5H => .set 5 (.reg .h)
  | .set5L => .set 5 (.reg .l)
  | .set5AtHL => .set 5 .ind
  | .set5A => .set 5 (.reg .a)
  | .set6B => .set 6 (.reg .b)
  | .set6C => .set 6 (.reg .c)
  | .set6D => .set 6 (.reg .d)
  | .set6E => .set 6 (.reg .e)
  | .set6H => .set 6 (.reg .h)
  | .set6L => .set 6 (.reg .l)
  | .set6AtHL => .set 6 .ind
  | .set6A => .set 6 (.reg .a)
  | .set7B => .set 7 (.reg .b)
  | .set7C => .set 7 (.reg .c)
  | .set7D => .set 7 (.reg .d)
  | .set7E => .set 7 (.reg .e)
  | .set7H => .set 7 (.reg .h)
  | .set7L => .set 7 (.reg .l)
  | .set7AtHL => .set 7 .ind
  | .set7A => .set 7 (.reg .a)

end Sys2Proof
end

