-- ==== Sys2Proof/WellFormed.lean ====
section
/-! DEFINITION. Well-formed instructions: the rows of the table that are instructions (30_encoding.md R84, R90). Every other
constraint on operands (register numbers, bit indexes, widths) is carried by the constructors and their types. -/

namespace Sys2Proof

/-- An instruction form is well formed when it is not one of the illegal opcodes, which are rows of the table but not
instructions (R84). -/
def Form.wf : Form → Bool
  | .illegal _ => false
  | .ldRegReg _ _ | .ldRegImm _ _ | .ldRegInd _ | .ldIndReg _ | .ldIndImm _ | .ldAPtr _ | .ldPtrA _ | .ldAbsA _
  | .ldAAbs _ | .ldhPageA _ | .ldhAPage _ | .ldhCA | .ldhAC | .ldPairImm _ _ | .ldAbsSP _ | .ldSPHL | .push _
  | .pop _ | .ldHLSPOff _ | .alu _ _ | .inc8 _ | .dec8 _ | .addHL _ | .inc16 _ | .dec16 _ | .addSPOff _ | .rlca
  | .rrca | .rla | .rra | .daa | .cpl | .scf | .ccf | .nop | .shift _ _ | .bit _ _ | .res _ _ | .set _ _ | .jp _
  | .jpCC _ _ | .jpHL | .jr _ | .jrCC _ _ | .call _ | .callCC _ _ | .ret | .retCC _ | .reti | .rst _ | .halt
  | .stop | .di | .ei => true

/-- A row of the table that is an instruction. -/
def Instr.wf (i : Instr) : Bool := i.form.wf

end Sys2Proof
end

