-- ==== Sys2Proof/Decode.lean ====
section
/-! DEFINITION. The decoder, total on any bytes (30_encoding.md R87), from the opcode maps R81 and R82 as grids, and the
encoder, from the opcode of each row of opcode_table.json. -/

namespace Sys2Proof

/-- An entry of the primary map (R81): an instruction with no operand byte, with one, with two (low byte first, R77),
STOP with its ignored byte (R86), or the escape byte (R83). -/
inductive Row where
  | plain (i : Instr)
  | imm8 (f : Byte → Instr)
  | imm16 (f : Word → Instr)
  | stop
  | escape

/-- Row 0x of the primary map (R81). -/
def primaryRow0 : List Row :=
  [.plain .nop, .imm16 .ldBCImm, .plain .ldAtBCA, .plain .incBC,
   .plain .incB, .plain .decB, .imm8 .ldBImm, .plain .rlca,
   .imm16 .ldAtAbsSP, .plain .addHLBC, .plain .ldAAtBC, .plain .decBC,
   .plain .incC, .plain .decC, .imm8 .ldCImm, .plain .rrca]

/-- Row 1x of the primary map (R81). -/
def primaryRow1 : List Row :=
  [.stop, .imm16 .ldDEImm, .plain .ldAtDEA, .plain .incDE,
   .plain .incD, .plain .decD, .imm8 .ldDImm, .plain .rla,
   .imm8 .jr, .plain .addHLDE, .plain .ldAAtDE, .plain .decDE,
   .plain .incE, .plain .decE, .imm8 .ldEImm, .plain .rra]

/-- Row 2x of the primary map (R81). -/
def primaryRow2 : List Row :=
  [.imm8 .jrNZ, .imm16 .ldHLImm, .plain .ldAtHLIncA, .plain .incHL,
   .plain .incH, .plain .decH, .imm8 .ldHImm, .plain .daa,
   .imm8 .jrZ, .plain .addHLHL, .plain .ldAAtHLInc, .plain .decHL,
   .plain .incL, .plain .decL, .imm8 .ldLImm, .plain .cpl]

/-- Row 3x of the primary map (R81). -/
def primaryRow3 : List Row :=
  [.imm8 .jrNC, .imm16 .ldSPImm, .plain .ldAtHLDecA, .plain .incSP,
   .plain .incAtHL, .plain .decAtHL, .imm8 .ldAtHLImm, .plain .scf,
   .imm8 .jrC, .plain .addHLSP, .plain .ldAAtHLDec, .plain .decSP,
   .plain .incA, .plain .decA, .imm8 .ldAImm, .plain .ccf]

/-- Row 4x of the primary map (R81). -/
def primaryRow4 : List Row :=
  [.plain .ldBB, .plain .ldBC, .plain .ldBD, .plain .ldBE,
   .plain .ldBH, .plain .ldBL, .plain .ldBAtHL, .plain .ldBA,
   .plain .ldCB, .plain .ldCC, .plain .ldCD, .plain .ldCE,
   .plain .ldCH, .plain .ldCL, .plain .ldCAtHL, .plain .ldCA]

/-- Row 5x of the primary map (R81). -/
def primaryRow5 : List Row :=
  [.plain .ldDB, .plain .ldDC, .plain .ldDD, .plain .ldDE,
   .plain .ldDH, .plain .ldDL, .plain .ldDAtHL, .plain .ldDA,
   .plain .ldEB, .plain .ldEC, .plain .ldED, .plain .ldEE,
   .plain .ldEH, .plain .ldEL, .plain .ldEAtHL, .plain .ldEA]

/-- Row 6x of the primary map (R81). -/
def primaryRow6 : List Row :=
  [.plain .ldHB, .plain .ldHC, .plain .ldHD, .plain .ldHE,
   .plain .ldHH, .plain .ldHL, .plain .ldHAtHL, .plain .ldHA,
   .plain .ldLB, .plain .ldLC, .plain .ldLD, .plain .ldLE,
   .plain .ldLH, .plain .ldLL, .plain .ldLAtHL, .plain .ldLA]

/-- Row 7x of the primary map (R81). -/
def primaryRow7 : List Row :=
  [.plain .ldAtHLB, .plain .ldAtHLC, .plain .ldAtHLD, .plain .ldAtHLE,
   .plain .ldAtHLH, .plain .ldAtHLL, .plain .halt, .plain .ldAtHLA,
   .plain .ldAB, .plain .ldAC, .plain .ldAD, .plain .ldAE,
   .plain .ldAH, .plain .ldAL, .plain .ldAAtHL, .plain .ldAA]

/-- Row 8x of the primary map (R81). -/
def primaryRow8 : List Row :=
  [.plain .addAB, .plain .addAC, .plain .addAD, .plain .addAE,
   .plain .addAH, .plain .addAL, .plain .addAAtHL, .plain .addAA,
   .plain .adcAB, .plain .adcAC, .plain .adcAD, .plain .adcAE,
   .plain .adcAH, .plain .adcAL, .plain .adcAAtHL, .plain .adcAA]

/-- Row 9x of the primary map (R81). -/
def primaryRow9 : List Row :=
  [.plain .subB, .plain .subC, .plain .subD, .plain .subE,
   .plain .subH, .plain .subL, .plain .subAtHL, .plain .subA,
   .plain .sbcAB, .plain .sbcAC, .plain .sbcAD, .plain .sbcAE,
   .plain .sbcAH, .plain .sbcAL, .plain .sbcAAtHL, .plain .sbcAA]

/-- Row Ax of the primary map (R81). -/
def primaryRowA : List Row :=
  [.plain .andB, .plain .andC, .plain .andD, .plain .andE,
   .plain .andH, .plain .andL, .plain .andAtHL, .plain .andA,
   .plain .xorB, .plain .xorC, .plain .xorD, .plain .xorE,
   .plain .xorH, .plain .xorL, .plain .xorAtHL, .plain .xorA]

/-- Row Bx of the primary map (R81). -/
def primaryRowB : List Row :=
  [.plain .orB, .plain .orC, .plain .orD, .plain .orE,
   .plain .orH, .plain .orL, .plain .orAtHL, .plain .orA,
   .plain .cpB, .plain .cpC, .plain .cpD, .plain .cpE,
   .plain .cpH, .plain .cpL, .plain .cpAtHL, .plain .cpA]

/-- Row Cx of the primary map (R81). -/
def primaryRowC : List Row :=
  [.plain .retNZ, .plain .popBC, .imm16 .jpNZ, .imm16 .jp,
   .imm16 .callNZ, .plain .pushBC, .imm8 .addAImm, .plain .rst00,
   .plain .retZ, .plain .ret, .imm16 .jpZ, .escape,
   .imm16 .callZ, .imm16 .call, .imm8 .adcAImm, .plain .rst08]

/-- Row Dx of the primary map (R81). -/
def primaryRowD : List Row :=
  [.plain .retNC, .plain .popDE, .imm16 .jpNC, .plain .illegalD3,
   .imm16 .callNC, .plain .pushDE, .imm8 .subImm, .plain .rst10,
   .plain .retC, .plain .reti, .imm16 .jpC, .plain .illegalDB,
   .imm16 .callC, .plain .illegalDD, .imm8 .sbcAImm, .plain .rst18]

/-- Row Ex of the primary map (R81). -/
def primaryRowE : List Row :=
  [.imm8 .ldhAtPageA, .plain .popHL, .plain .ldAtCA, .plain .illegalE3,
   .plain .illegalE4, .plain .pushHL, .imm8 .andImm, .plain .rst20,
   .imm8 .addSPOff, .plain .jpHL, .imm16 .ldAtAbsA, .plain .illegalEB,
   .plain .illegalEC, .plain .illegalED, .imm8 .xorImm, .plain .rst28]

/-- Row Fx of the primary map (R81). -/
def primaryRowF : List Row :=
  [.imm8 .ldhAAtPage, .plain .popAF, .plain .ldAAtC, .plain .di,
   .plain .illegalF4, .plain .pushAF, .imm8 .orImm, .plain .rst30,
   .imm8 .ldHLSPOff, .plain .ldSPHL, .imm16 .ldAAtAbs, .plain .ei,
   .plain .illegalFC, .plain .illegalFD, .imm8 .cpImm, .plain .rst38]

/-- The primary map (R81): 16 rows of 16 columns. -/
def primaryGrid : List (List Row) :=
  [primaryRow0, primaryRow1, primaryRow2, primaryRow3, primaryRow4, primaryRow5, primaryRow6, primaryRow7,
   primaryRow8, primaryRow9, primaryRowA, primaryRowB, primaryRowC, primaryRowD, primaryRowE, primaryRowF]

/-- The primary entry of an opcode: row `op[7:4]`, column `op[3:0]` (R81). The grid has an entry for each of the 256
values, so the default is never read (`Laws.primaryGrid_full`). -/
def primaryRow (op : Byte) : Row :=
  (primaryGrid.getD (op.toNat / 16) []).getD (op.toNat % 16) .escape

/-- Group 0 of the secondary map (R82), rotates and shifts: a list of 8 operands for each y. -/
def secondaryGroup0 : List (List Instr) :=
  [[.rlcB, .rlcC, .rlcD, .rlcE, .rlcH, .rlcL, .rlcAtHL, .rlcA],
   [.rrcB, .rrcC, .rrcD, .rrcE, .rrcH, .rrcL, .rrcAtHL, .rrcA],
   [.rlB, .rlC, .rlD, .rlE, .rlH, .rlL, .rlAtHL, .rlA],
   [.rrB, .rrC, .rrD, .rrE, .rrH, .rrL, .rrAtHL, .rrA],
   [.slaB, .slaC, .slaD, .slaE, .slaH, .slaL, .slaAtHL, .slaA],
   [.sraB, .sraC, .sraD, .sraE, .sraH, .sraL, .sraAtHL, .sraA],
   [.swapB, .swapC, .swapD, .swapE, .swapH, .swapL, .swapAtHL, .swapA],
   [.srlB, .srlC, .srlD, .srlE, .srlH, .srlL, .srlAtHL, .srlA]]

/-- Group 1 of the secondary map (R82), BIT: a list of 8 operands for each y. -/
def secondaryGroup1 : List (List Instr) :=
  [[.bit0B, .bit0C, .bit0D, .bit0E, .bit0H, .bit0L, .bit0AtHL, .bit0A],
   [.bit1B, .bit1C, .bit1D, .bit1E, .bit1H, .bit1L, .bit1AtHL, .bit1A],
   [.bit2B, .bit2C, .bit2D, .bit2E, .bit2H, .bit2L, .bit2AtHL, .bit2A],
   [.bit3B, .bit3C, .bit3D, .bit3E, .bit3H, .bit3L, .bit3AtHL, .bit3A],
   [.bit4B, .bit4C, .bit4D, .bit4E, .bit4H, .bit4L, .bit4AtHL, .bit4A],
   [.bit5B, .bit5C, .bit5D, .bit5E, .bit5H, .bit5L, .bit5AtHL, .bit5A],
   [.bit6B, .bit6C, .bit6D, .bit6E, .bit6H, .bit6L, .bit6AtHL, .bit6A],
   [.bit7B, .bit7C, .bit7D, .bit7E, .bit7H, .bit7L, .bit7AtHL, .bit7A]]

/-- Group 2 of the secondary map (R82), RES: a list of 8 operands for each y. -/
def secondaryGroup2 : List (List Instr) :=
  [[.res0B, .res0C, .res0D, .res0E, .res0H, .res0L, .res0AtHL, .res0A],
   [.res1B, .res1C, .res1D, .res1E, .res1H, .res1L, .res1AtHL, .res1A],
   [.res2B, .res2C, .res2D, .res2E, .res2H, .res2L, .res2AtHL, .res2A],
   [.res3B, .res3C, .res3D, .res3E, .res3H, .res3L, .res3AtHL, .res3A],
   [.res4B, .res4C, .res4D, .res4E, .res4H, .res4L, .res4AtHL, .res4A],
   [.res5B, .res5C, .res5D, .res5E, .res5H, .res5L, .res5AtHL, .res5A],
   [.res6B, .res6C, .res6D, .res6E, .res6H, .res6L, .res6AtHL, .res6A],
   [.res7B, .res7C, .res7D, .res7E, .res7H, .res7L, .res7AtHL, .res7A]]

/-- Group 3 of the secondary map (R82), SET: a list of 8 operands for each y. -/
def secondaryGroup3 : List (List Instr) :=
  [[.set0B, .set0C, .set0D, .set0E, .set0H, .set0L, .set0AtHL, .set0A],
   [.set1B, .set1C, .set1D, .set1E, .set1H, .set1L, .set1AtHL, .set1A],
   [.set2B, .set2C, .set2D, .set2E, .set2H, .set2L, .set2AtHL, .set2A],
   [.set3B, .set3C, .set3D, .set3E, .set3H, .set3L, .set3AtHL, .set3A],
   [.set4B, .set4C, .set4D, .set4E, .set4H, .set4L, .set4AtHL, .set4A],
   [.set5B, .set5C, .set5D, .set5E, .set5H, .set5L, .set5AtHL, .set5A],
   [.set6B, .set6C, .set6D, .set6E, .set6H, .set6L, .set6AtHL, .set6A],
   [.set7B, .set7C, .set7D, .set7E, .set7H, .set7L, .set7AtHL, .set7A]]

/-- The secondary map (R82): groups `g`, operations or bit indexes `y`, operands `z`. -/
def secondaryGrid : List (List (List Instr)) :=
  [secondaryGroup0, secondaryGroup1, secondaryGroup2, secondaryGroup3]

/-- The secondary instruction of a byte: `g = op2[7:6]`, `y = op2[5:3]`, `z = op2[2:0]` (R72, R82). All 256 values have an
entry, so the default is never read (`Laws.secondaryGrid_full`). -/
def secondaryRow (op : Byte) : Instr :=
  ((secondaryGrid.getD (op.toNat / 64) []).getD (op.toNat / 8 % 8) []).getD (op.toNat % 8) .nop

/-- How many bytes follow the opcode (R70, R71, R81, R251). -/
def Row.operandBytes (sl : StopLength) : Row → Nat
  | .plain _ => 0
  | .imm8 _ => 1
  | .imm16 _ => 2
  | .stop => match sl with
    | .one => 0
    | .two => 1
  | .escape => 0

/-- The opcode bytes of a key, in address order (R102). -/
def Key.bytes (k : Key) : List Byte :=
  match k.space with
  | .primary => [k.opcode]
  | .secondary => [0xCB, k.opcode]

/-- How many operand bytes the row of a key has (R70, R87). The secondary space has none (R210). -/
def Key.operandBytes (sl : StopLength) (k : Key) : Nat :=
  match k.space with
  | .primary => (primaryRow k.opcode).operandBytes sl
  | .secondary => 0

/-- Why the decoder answers no instruction: the list ends before the instruction does. Every longer list decodes (R87);
an illegal opcode (R84) decodes to the constructor that names it. -/
inductive DecodeError where
  | noOpcode
  | noSecondaryOpcode
  | noOperand
  deriving DecidableEq, Repr

/-- Decode one instruction from the front of a list of bytes in address order, with the bytes after it (R87). Total. -/
def decode (sl : StopLength) : List Byte → Except DecodeError (Instr × List Byte)
  | [] => .error .noOpcode
  | op :: rest =>
    match primaryRow op with
    | .plain i => .ok (i, rest)
    | .imm8 f =>
      match rest with
      | v :: rest => .ok (f v, rest)
      | [] => .error .noOperand
    | .imm16 f =>
      match rest with
      | lo :: hi :: rest => .ok (f (mkWord hi lo), rest)
      | _ => .error .noOperand
    | .stop =>
      match sl, rest with
      | .one, rest => .ok (.stop, rest)
      | .two, _ :: rest => .ok (.stop, rest)
      | .two, [] => .error .noOperand
    | .escape =>
      match rest with
      | op2 :: rest => .ok (secondaryRow op2, rest)
      | [] => .error .noSecondaryOpcode

/-- The bytes of STOP: `0x10`, and with `STOP_LENGTH` 2 the ignored byte, conventionally 0 (R71, R251). -/
def stopBytes : StopLength → List Byte
  | .one => [0x10]
  | .two => [0x10, 0x00]

/-- The bytes of an instruction in address order, from its row's `match` and `encoding` fields. -/
def encode (sl : StopLength) : Instr → List Byte
  | .nop => [0x00]
  | .ldBCImm w => [0x01, loByte w, hiByte w]
  | .ldAtBCA => [0x02]
  | .incBC => [0x03]
  | .incB => [0x04]
  | .decB => [0x05]
  | .ldBImm v => [0x06, v]
  | .rlca => [0x07]
  | .ldAtAbsSP w => [0x08, loByte w, hiByte w]
  | .addHLBC => [0x09]
  | .ldAAtBC => [0x0A]
  | .decBC => [0x0B]
  | .incC => [0x0C]
  | .decC => [0x0D]
  | .ldCImm v => [0x0E, v]
  | .rrca => [0x0F]
  | .stop => stopBytes sl
  | .ldDEImm w => [0x11, loByte w, hiByte w]
  | .ldAtDEA => [0x12]
  | .incDE => [0x13]
  | .incD => [0x14]
  | .decD => [0x15]
  | .ldDImm v => [0x16, v]
  | .rla => [0x17]
  | .jr e => [0x18, e]
  | .addHLDE => [0x19]
  | .ldAAtDE => [0x1A]
  | .decDE => [0x1B]
  | .incE => [0x1C]
  | .decE => [0x1D]
  | .ldEImm v => [0x1E, v]
  | .rra => [0x1F]
  | .jrNZ e => [0x20, e]
  | .ldHLImm w => [0x21, loByte w, hiByte w]
  | .ldAtHLIncA => [0x22]
  | .incHL => [0x23]
  | .incH => [0x24]
  | .decH => [0x25]
  | .ldHImm v => [0x26, v]
  | .daa => [0x27]
  | .jrZ e => [0x28, e]
  | .addHLHL => [0x29]
  | .ldAAtHLInc => [0x2A]
  | .decHL => [0x2B]
  | .incL => [0x2C]
  | .decL => [0x2D]
  | .ldLImm v => [0x2E, v]
  | .cpl => [0x2F]
  | .jrNC e => [0x30, e]
  | .ldSPImm w => [0x31, loByte w, hiByte w]
  | .ldAtHLDecA => [0x32]
  | .incSP => [0x33]
  | .incAtHL => [0x34]
  | .decAtHL => [0x35]
  | .ldAtHLImm v => [0x36, v]
  | .scf => [0x37]
  | .jrC e => [0x38, e]
  | .addHLSP => [0x39]
  | .ldAAtHLDec => [0x3A]
  | .decSP => [0x3B]
  | .incA => [0x3C]
  | .decA => [0x3D]
  | .ldAImm v => [0x3E, v]
  | .ccf => [0x3F]
  | .ldBB => [0x40]
  | .ldBC => [0x41]
  | .ldBD => [0x42]
  | .ldBE => [0x43]
  | .ldBH => [0x44]
  | .ldBL => [0x45]
  | .ldBAtHL => [0x46]
  | .ldBA => [0x47]
  | .ldCB => [0x48]
  | .ldCC => [0x49]
  | .ldCD => [0x4A]
  | .ldCE => [0x4B]
  | .ldCH => [0x4C]
  | .ldCL => [0x4D]
  | .ldCAtHL => [0x4E]
  | .ldCA => [0x4F]
  | .ldDB => [0x50]
  | .ldDC => [0x51]
  | .ldDD => [0x52]
  | .ldDE => [0x53]
  | .ldDH => [0x54]
  | .ldDL => [0x55]
  | .ldDAtHL => [0x56]
  | .ldDA => [0x57]
  | .ldEB => [0x58]
  | .ldEC => [0x59]
  | .ldED => [0x5A]
  | .ldEE => [0x5B]
  | .ldEH => [0x5C]
  | .ldEL => [0x5D]
  | .ldEAtHL => [0x5E]
  | .ldEA => [0x5F]
  | .ldHB => [0x60]
  | .ldHC => [0x61]
  | .ldHD => [0x62]
  | .ldHE => [0x63]
  | .ldHH => [0x64]
  | .ldHL => [0x65]
  | .ldHAtHL => [0x66]
  | .ldHA => [0x67]
  | .ldLB => [0x68]
  | .ldLC => [0x69]
  | .ldLD => [0x6A]
  | .ldLE => [0x6B]
  | .ldLH => [0x6C]
  | .ldLL => [0x6D]
  | .ldLAtHL => [0x6E]
  | .ldLA => [0x6F]
  | .ldAtHLB => [0x70]
  | .ldAtHLC => [0x71]
  | .ldAtHLD => [0x72]
  | .ldAtHLE => [0x73]
  | .ldAtHLH => [0x74]
  | .ldAtHLL => [0x75]
  | .halt => [0x76]
  | .ldAtHLA => [0x77]
  | .ldAB => [0x78]
  | .ldAC => [0x79]
  | .ldAD => [0x7A]
  | .ldAE => [0x7B]
  | .ldAH => [0x7C]
  | .ldAL => [0x7D]
  | .ldAAtHL => [0x7E]
  | .ldAA => [0x7F]
  | .addAB => [0x80]
  | .addAC => [0x81]
  | .addAD => [0x82]
  | .addAE => [0x83]
  | .addAH => [0x84]
  | .addAL => [0x85]
  | .addAAtHL => [0x86]
  | .addAA => [0x87]
  | .adcAB => [0x88]
  | .adcAC => [0x89]
  | .adcAD => [0x8A]
  | .adcAE => [0x8B]
  | .adcAH => [0x8C]
  | .adcAL => [0x8D]
  | .adcAAtHL => [0x8E]
  | .adcAA => [0x8F]
  | .subB => [0x90]
  | .subC => [0x91]
  | .subD => [0x92]
  | .subE => [0x93]
  | .subH => [0x94]
  | .subL => [0x95]
  | .subAtHL => [0x96]
  | .subA => [0x97]
  | .sbcAB => [0x98]
  | .sbcAC => [0x99]
  | .sbcAD => [0x9A]
  | .sbcAE => [0x9B]
  | .sbcAH => [0x9C]
  | .sbcAL => [0x9D]
  | .sbcAAtHL => [0x9E]
  | .sbcAA => [0x9F]
  | .andB => [0xA0]
  | .andC => [0xA1]
  | .andD => [0xA2]
  | .andE => [0xA3]
  | .andH => [0xA4]
  | .andL => [0xA5]
  | .andAtHL => [0xA6]
  | .andA => [0xA7]
  | .xorB => [0xA8]
  | .xorC => [0xA9]
  | .xorD => [0xAA]
  | .xorE => [0xAB]
  | .xorH => [0xAC]
  | .xorL => [0xAD]
  | .xorAtHL => [0xAE]
  | .xorA => [0xAF]
  | .orB => [0xB0]
  | .orC => [0xB1]
  | .orD => [0xB2]
  | .orE => [0xB3]
  | .orH => [0xB4]
  | .orL => [0xB5]
  | .orAtHL => [0xB6]
  | .orA => [0xB7]
  | .cpB => [0xB8]
  | .cpC => [0xB9]
  | .cpD => [0xBA]
  | .cpE => [0xBB]
  | .cpH => [0xBC]
  | .cpL => [0xBD]
  | .cpAtHL => [0xBE]
  | .cpA => [0xBF]
  | .retNZ => [0xC0]
  | .popBC => [0xC1]
  | .jpNZ w => [0xC2, loByte w, hiByte w]
  | .jp w => [0xC3, loByte w, hiByte w]
  | .callNZ w => [0xC4, loByte w, hiByte w]
  | .pushBC => [0xC5]
  | .addAImm v => [0xC6, v]
  | .rst00 => [0xC7]
  | .retZ => [0xC8]
  | .ret => [0xC9]
  | .jpZ w => [0xCA, loByte w, hiByte w]
  | .callZ w => [0xCC, loByte w, hiByte w]
  | .call w => [0xCD, loByte w, hiByte w]
  | .adcAImm v => [0xCE, v]
  | .rst08 => [0xCF]
  | .retNC => [0xD0]
  | .popDE => [0xD1]
  | .jpNC w => [0xD2, loByte w, hiByte w]
  | .illegalD3 => [0xD3]
  | .callNC w => [0xD4, loByte w, hiByte w]
  | .pushDE => [0xD5]
  | .subImm v => [0xD6, v]
  | .rst10 => [0xD7]
  | .retC => [0xD8]
  | .reti => [0xD9]
  | .jpC w => [0xDA, loByte w, hiByte w]
  | .illegalDB => [0xDB]
  | .callC w => [0xDC, loByte w, hiByte w]
  | .illegalDD => [0xDD]
  | .sbcAImm v => [0xDE, v]
  | .rst18 => [0xDF]
  | .ldhAtPageA n => [0xE0, n]
  | .popHL => [0xE1]
  | .ldAtCA => [0xE2]
  | .illegalE3 => [0xE3]
  | .illegalE4 => [0xE4]
  | .pushHL => [0xE5]
  | .andImm v => [0xE6, v]
  | .rst20 => [0xE7]
  | .addSPOff e => [0xE8, e]
  | .jpHL => [0xE9]
  | .ldAtAbsA w => [0xEA, loByte w, hiByte w]
  | .illegalEB => [0xEB]
  | .illegalEC => [0xEC]
  | .illegalED => [0xED]
  | .xorImm v => [0xEE, v]
  | .rst28 => [0xEF]
  | .ldhAAtPage n => [0xF0, n]
  | .popAF => [0xF1]
  | .ldAAtC => [0xF2]
  | .di => [0xF3]
  | .illegalF4 => [0xF4]
  | .pushAF => [0xF5]
  | .orImm v => [0xF6, v]
  | .rst30 => [0xF7]
  | .ldHLSPOff e => [0xF8, e]
  | .ldSPHL => [0xF9]
  | .ldAAtAbs w => [0xFA, loByte w, hiByte w]
  | .ei => [0xFB]
  | .illegalFC => [0xFC]
  | .illegalFD => [0xFD]
  | .cpImm v => [0xFE, v]
  | .rst38 => [0xFF]
  | .rlcB => [0xCB, 0x00]
  | .rlcC => [0xCB, 0x01]
  | .rlcD => [0xCB, 0x02]
  | .rlcE => [0xCB, 0x03]
  | .rlcH => [0xCB, 0x04]
  | .rlcL => [0xCB, 0x05]
  | .rlcAtHL => [0xCB, 0x06]
  | .rlcA => [0xCB, 0x07]
  | .rrcB => [0xCB, 0x08]
  | .rrcC => [0xCB, 0x09]
  | .rrcD => [0xCB, 0x0A]
  | .rrcE => [0xCB, 0x0B]
  | .rrcH => [0xCB, 0x0C]
  | .rrcL => [0xCB, 0x0D]
  | .rrcAtHL => [0xCB, 0x0E]
  | .rrcA => [0xCB, 0x0F]
  | .rlB => [0xCB, 0x10]
  | .rlC => [0xCB, 0x11]
  | .rlD => [0xCB, 0x12]
  | .rlE => [0xCB, 0x13]
  | .rlH => [0xCB, 0x14]
  | .rlL => [0xCB, 0x15]
  | .rlAtHL => [0xCB, 0x16]
  | .rlA => [0xCB, 0x17]
  | .rrB => [0xCB, 0x18]
  | .rrC => [0xCB, 0x19]
  | .rrD => [0xCB, 0x1A]
  | .rrE => [0xCB, 0x1B]
  | .rrH => [0xCB, 0x1C]
  | .rrL => [0xCB, 0x1D]
  | .rrAtHL => [0xCB, 0x1E]
  | .rrA => [0xCB, 0x1F]
  | .slaB => [0xCB, 0x20]
  | .slaC => [0xCB, 0x21]
  | .slaD => [0xCB, 0x22]
  | .slaE => [0xCB, 0x23]
  | .slaH => [0xCB, 0x24]
  | .slaL => [0xCB, 0x25]
  | .slaAtHL => [0xCB, 0x26]
  | .slaA => [0xCB, 0x27]
  | .sraB => [0xCB, 0x28]
  | .sraC => [0xCB, 0x29]
  | .sraD => [0xCB, 0x2A]
  | .sraE => [0xCB, 0x2B]
  | .sraH => [0xCB, 0x2C]
  | .sraL => [0xCB, 0x2D]
  | .sraAtHL => [0xCB, 0x2E]
  | .sraA => [0xCB, 0x2F]
  | .swapB => [0xCB, 0x30]
  | .swapC => [0xCB, 0x31]
  | .swapD => [0xCB, 0x32]
  | .swapE => [0xCB, 0x33]
  | .swapH => [0xCB, 0x34]
  | .swapL => [0xCB, 0x35]
  | .swapAtHL => [0xCB, 0x36]
  | .swapA => [0xCB, 0x37]
  | .srlB => [0xCB, 0x38]
  | .srlC => [0xCB, 0x39]
  | .srlD => [0xCB, 0x3A]
  | .srlE => [0xCB, 0x3B]
  | .srlH => [0xCB, 0x3C]
  | .srlL => [0xCB, 0x3D]
  | .srlAtHL => [0xCB, 0x3E]
  | .srlA => [0xCB, 0x3F]
  | .bit0B => [0xCB, 0x40]
  | .bit0C => [0xCB, 0x41]
  | .bit0D => [0xCB, 0x42]
  | .bit0E => [0xCB, 0x43]
  | .bit0H => [0xCB, 0x44]
  | .bit0L => [0xCB, 0x45]
  | .bit0AtHL => [0xCB, 0x46]
  | .bit0A => [0xCB, 0x47]
  | .bit1B => [0xCB, 0x48]
  | .bit1C => [0xCB, 0x49]
  | .bit1D => [0xCB, 0x4A]
  | .bit1E => [0xCB, 0x4B]
  | .bit1H => [0xCB, 0x4C]
  | .bit1L => [0xCB, 0x4D]
  | .bit1AtHL => [0xCB, 0x4E]
  | .bit1A => [0xCB, 0x4F]
  | .bit2B => [0xCB, 0x50]
  | .bit2C => [0xCB, 0x51]
  | .bit2D => [0xCB, 0x52]
  | .bit2E => [0xCB, 0x53]
  | .bit2H => [0xCB, 0x54]
  | .bit2L => [0xCB, 0x55]
  | .bit2AtHL => [0xCB, 0x56]
  | .bit2A => [0xCB, 0x57]
  | .bit3B => [0xCB, 0x58]
  | .bit3C => [0xCB, 0x59]
  | .bit3D => [0xCB, 0x5A]
  | .bit3E => [0xCB, 0x5B]
  | .bit3H => [0xCB, 0x5C]
  | .bit3L => [0xCB, 0x5D]
  | .bit3AtHL => [0xCB, 0x5E]
  | .bit3A => [0xCB, 0x5F]
  | .bit4B => [0xCB, 0x60]
  | .bit4C => [0xCB, 0x61]
  | .bit4D => [0xCB, 0x62]
  | .bit4E => [0xCB, 0x63]
  | .bit4H => [0xCB, 0x64]
  | .bit4L => [0xCB, 0x65]
  | .bit4AtHL => [0xCB, 0x66]
  | .bit4A => [0xCB, 0x67]
  | .bit5B => [0xCB, 0x68]
  | .bit5C => [0xCB, 0x69]
  | .bit5D => [0xCB, 0x6A]
  | .bit5E => [0xCB, 0x6B]
  | .bit5H => [0xCB, 0x6C]
  | .bit5L => [0xCB, 0x6D]
  | .bit5AtHL => [0xCB, 0x6E]
  | .bit5A => [0xCB, 0x6F]
  | .bit6B => [0xCB, 0x70]
  | .bit6C => [0xCB, 0x71]
  | .bit6D => [0xCB, 0x72]
  | .bit6E => [0xCB, 0x73]
  | .bit6H => [0xCB, 0x74]
  | .bit6L => [0xCB, 0x75]
  | .bit6AtHL => [0xCB, 0x76]
  | .bit6A => [0xCB, 0x77]
  | .bit7B => [0xCB, 0x78]
  | .bit7C => [0xCB, 0x79]
  | .bit7D => [0xCB, 0x7A]
  | .bit7E => [0xCB, 0x7B]
  | .bit7H => [0xCB, 0x7C]
  | .bit7L => [0xCB, 0x7D]
  | .bit7AtHL => [0xCB, 0x7E]
  | .bit7A => [0xCB, 0x7F]
  | .res0B => [0xCB, 0x80]
  | .res0C => [0xCB, 0x81]
  | .res0D => [0xCB, 0x82]
  | .res0E => [0xCB, 0x83]
  | .res0H => [0xCB, 0x84]
  | .res0L => [0xCB, 0x85]
  | .res0AtHL => [0xCB, 0x86]
  | .res0A => [0xCB, 0x87]
  | .res1B => [0xCB, 0x88]
  | .res1C => [0xCB, 0x89]
  | .res1D => [0xCB, 0x8A]
  | .res1E => [0xCB, 0x8B]
  | .res1H => [0xCB, 0x8C]
  | .res1L => [0xCB, 0x8D]
  | .res1AtHL => [0xCB, 0x8E]
  | .res1A => [0xCB, 0x8F]
  | .res2B => [0xCB, 0x90]
  | .res2C => [0xCB, 0x91]
  | .res2D => [0xCB, 0x92]
  | .res2E => [0xCB, 0x93]
  | .res2H => [0xCB, 0x94]
  | .res2L => [0xCB, 0x95]
  | .res2AtHL => [0xCB, 0x96]
  | .res2A => [0xCB, 0x97]
  | .res3B => [0xCB, 0x98]
  | .res3C => [0xCB, 0x99]
  | .res3D => [0xCB, 0x9A]
  | .res3E => [0xCB, 0x9B]
  | .res3H => [0xCB, 0x9C]
  | .res3L => [0xCB, 0x9D]
  | .res3AtHL => [0xCB, 0x9E]
  | .res3A => [0xCB, 0x9F]
  | .res4B => [0xCB, 0xA0]
  | .res4C => [0xCB, 0xA1]
  | .res4D => [0xCB, 0xA2]
  | .res4E => [0xCB, 0xA3]
  | .res4H => [0xCB, 0xA4]
  | .res4L => [0xCB, 0xA5]
  | .res4AtHL => [0xCB, 0xA6]
  | .res4A => [0xCB, 0xA7]
  | .res5B => [0xCB, 0xA8]
  | .res5C => [0xCB, 0xA9]
  | .res5D => [0xCB, 0xAA]
  | .res5E => [0xCB, 0xAB]
  | .res5H => [0xCB, 0xAC]
  | .res5L => [0xCB, 0xAD]
  | .res5AtHL => [0xCB, 0xAE]
  | .res5A => [0xCB, 0xAF]
  | .res6B => [0xCB, 0xB0]
  | .res6C => [0xCB, 0xB1]
  | .res6D => [0xCB, 0xB2]
  | .res6E => [0xCB, 0xB3]
  | .res6H => [0xCB, 0xB4]
  | .res6L => [0xCB, 0xB5]
  | .res6AtHL => [0xCB, 0xB6]
  | .res6A => [0xCB, 0xB7]
  | .res7B => [0xCB, 0xB8]
  | .res7C => [0xCB, 0xB9]
  | .res7D => [0xCB, 0xBA]
  | .res7E => [0xCB, 0xBB]
  | .res7H => [0xCB, 0xBC]
  | .res7L => [0xCB, 0xBD]
  | .res7AtHL => [0xCB, 0xBE]
  | .res7A => [0xCB, 0xBF]
  | .set0B => [0xCB, 0xC0]
  | .set0C => [0xCB, 0xC1]
  | .set0D => [0xCB, 0xC2]
  | .set0E => [0xCB, 0xC3]
  | .set0H => [0xCB, 0xC4]
  | .set0L => [0xCB, 0xC5]
  | .set0AtHL => [0xCB, 0xC6]
  | .set0A => [0xCB, 0xC7]
  | .set1B => [0xCB, 0xC8]
  | .set1C => [0xCB, 0xC9]
  | .set1D => [0xCB, 0xCA]
  | .set1E => [0xCB, 0xCB]
  | .set1H => [0xCB, 0xCC]
  | .set1L => [0xCB, 0xCD]
  | .set1AtHL => [0xCB, 0xCE]
  | .set1A => [0xCB, 0xCF]
  | .set2B => [0xCB, 0xD0]
  | .set2C => [0xCB, 0xD1]
  | .set2D => [0xCB, 0xD2]
  | .set2E => [0xCB, 0xD3]
  | .set2H => [0xCB, 0xD4]
  | .set2L => [0xCB, 0xD5]
  | .set2AtHL => [0xCB, 0xD6]
  | .set2A => [0xCB, 0xD7]
  | .set3B => [0xCB, 0xD8]
  | .set3C => [0xCB, 0xD9]
  | .set3D => [0xCB, 0xDA]
  | .set3E => [0xCB, 0xDB]
  | .set3H => [0xCB, 0xDC]
  | .set3L => [0xCB, 0xDD]
  | .set3AtHL => [0xCB, 0xDE]
  | .set3A => [0xCB, 0xDF]
  | .set4B => [0xCB, 0xE0]
  | .set4C => [0xCB, 0xE1]
  | .set4D => [0xCB, 0xE2]
  | .set4E => [0xCB, 0xE3]
  | .set4H => [0xCB, 0xE4]
  | .set4L => [0xCB, 0xE5]
  | .set4AtHL => [0xCB, 0xE6]
  | .set4A => [0xCB, 0xE7]
  | .set5B => [0xCB, 0xE8]
  | .set5C => [0xCB, 0xE9]
  | .set5D => [0xCB, 0xEA]
  | .set5E => [0xCB, 0xEB]
  | .set5H => [0xCB, 0xEC]
  | .set5L => [0xCB, 0xED]
  | .set5AtHL => [0xCB, 0xEE]
  | .set5A => [0xCB, 0xEF]
  | .set6B => [0xCB, 0xF0]
  | .set6C => [0xCB, 0xF1]
  | .set6D => [0xCB, 0xF2]
  | .set6E => [0xCB, 0xF3]
  | .set6H => [0xCB, 0xF4]
  | .set6L => [0xCB, 0xF5]
  | .set6AtHL => [0xCB, 0xF6]
  | .set6A => [0xCB, 0xF7]
  | .set7B => [0xCB, 0xF8]
  | .set7C => [0xCB, 0xF9]
  | .set7D => [0xCB, 0xFA]
  | .set7E => [0xCB, 0xFB]
  | .set7H => [0xCB, 0xFC]
  | .set7L => [0xCB, 0xFD]
  | .set7AtHL => [0xCB, 0xFE]
  | .set7A => [0xCB, 0xFF]

/-- The value of an 8-bit register in an operand field (R73). -/
def Reg8.code : Reg8 → Nat
  | .b => 0
  | .c => 1
  | .d => 2
  | .e => 3
  | .h => 4
  | .l => 5
  | .a => 7

/-- The value of an 8-bit operand field (R73): 6 names the byte at HL. -/
def Loc8.code : Loc8 → Nat
  | .reg r => r.code
  | .ind => 6

/-- The value of `rp` (R74). -/
def Pair.code : Pair → Nat
  | .bc => 0
  | .de => 1
  | .hl => 2
  | .sp => 3

/-- The value of `rp2` (R74). -/
def StackPair.code : StackPair → Nat
  | .bc => 0
  | .de => 1
  | .hl => 2
  | .af => 3

/-- The value of `rpm` (R74). -/
def Ptr.code : Ptr → Nat
  | .bc => 0
  | .de => 1
  | .hlInc => 2
  | .hlDec => 3

/-- The value of a condition field (R75). -/
def Cond.code : Cond → Nat
  | .nz => 0
  | .z => 1
  | .nc => 2
  | .c => 3

/-- The value of the operation field of an 8-bit operator (R81, R150). -/
def AluOp.code : AluOp → Nat
  | .add => 0
  | .adc => 1
  | .sub => 2
  | .sbc => 3
  | .and => 4
  | .xor => 5
  | .or => 6
  | .cp => 7

/-- The value of the operation field of a rotate or shift (R82, R210). -/
def ShiftOp.code : ShiftOp → Nat
  | .rlc => 0
  | .rrc => 1
  | .rl => 2
  | .rr => 3
  | .sla => 4
  | .sra => 5
  | .swap => 6
  | .srl => 7

/-- The bytes of a form by the field patterns of R81 and R82, with the operand fields' values put in their places; the
opcodes outside the regular blocks are those of their rules. -/
def Form.fieldBytes (sl : StopLength) : Form → List Byte
  | .ldRegReg dst src => [BitVec.ofNat 8 (0b01000000 + 8 * dst.code + src.code)]
  | .ldRegImm dst v => [BitVec.ofNat 8 (0b00000110 + 8 * dst.code), v]
  | .ldRegInd dst => [BitVec.ofNat 8 (0b01000000 + 8 * dst.code + 6)]
  | .ldIndReg src => [BitVec.ofNat 8 (0b01110000 + src.code)]
  | .ldIndImm v => [0x36, v]
  | .ldAPtr p => [BitVec.ofNat 8 (0b00001010 + 16 * p.code)]
  | .ldPtrA p => [BitVec.ofNat 8 (0b00000010 + 16 * p.code)]
  | .ldAbsA w => [0xEA, loByte w, hiByte w]
  | .ldAAbs w => [0xFA, loByte w, hiByte w]
  | .ldhPageA n => [0xE0, n]
  | .ldhAPage n => [0xF0, n]
  | .ldhCA => [0xE2]
  | .ldhAC => [0xF2]
  | .ldPairImm p w => [BitVec.ofNat 8 (0b00000001 + 16 * p.code), loByte w, hiByte w]
  | .ldAbsSP w => [0x08, loByte w, hiByte w]
  | .ldSPHL => [0xF9]
  | .push p => [BitVec.ofNat 8 (0b11000101 + 16 * p.code)]
  | .pop p => [BitVec.ofNat 8 (0b11000001 + 16 * p.code)]
  | .ldHLSPOff e => [0xF8, e]
  | .alu op (.reg r) => [BitVec.ofNat 8 (0b10000000 + 8 * op.code + r.code)]
  | .alu op .ind => [BitVec.ofNat 8 (0b10000000 + 8 * op.code + 6)]
  | .alu op (.imm v) => [BitVec.ofNat 8 (0b11000110 + 8 * op.code), v]
  | .inc8 x => [BitVec.ofNat 8 (0b00000100 + 8 * x.code)]
  | .dec8 x => [BitVec.ofNat 8 (0b00000101 + 8 * x.code)]
  | .addHL p => [BitVec.ofNat 8 (0b00001001 + 16 * p.code)]
  | .inc16 p => [BitVec.ofNat 8 (0b00000011 + 16 * p.code)]
  | .dec16 p => [BitVec.ofNat 8 (0b00001011 + 16 * p.code)]
  | .addSPOff e => [0xE8, e]
  | .rlca => [0x07]
  | .rrca => [0x0F]
  | .rla => [0x17]
  | .rra => [0x1F]
  | .daa => [0x27]
  | .cpl => [0x2F]
  | .scf => [0x37]
  | .ccf => [0x3F]
  | .nop => [0x00]
  | .shift op x => [0xCB, BitVec.ofNat 8 (8 * op.code + x.code)]
  | .bit b x => [0xCB, BitVec.ofNat 8 (0b01000000 + 8 * b.val + x.code)]
  | .res b x => [0xCB, BitVec.ofNat 8 (0b10000000 + 8 * b.val + x.code)]
  | .set b x => [0xCB, BitVec.ofNat 8 (0b11000000 + 8 * b.val + x.code)]
  | .jp w => [0xC3, loByte w, hiByte w]
  | .jpCC cc w => [BitVec.ofNat 8 (0b11000010 + 8 * cc.code), loByte w, hiByte w]
  | .jpHL => [0xE9]
  | .jr e => [0x18, e]
  | .jrCC cc e => [BitVec.ofNat 8 (0b00100000 + 8 * cc.code), e]
  | .call w => [0xCD, loByte w, hiByte w]
  | .callCC cc w => [BitVec.ofNat 8 (0b11000100 + 8 * cc.code), loByte w, hiByte w]
  | .ret => [0xC9]
  | .retCC cc => [BitVec.ofNat 8 (0b11000000 + 8 * cc.code)]
  | .reti => [0xD9]
  | .rst y => [BitVec.ofNat 8 (0b11000111 + 8 * y.val)]
  | .halt => [0x76]
  | .stop => stopBytes sl
  | .di => [0xF3]
  | .ei => [0xFB]
  | .illegal op => [op]

/-- The key at the front of an instruction's bytes (R102). -/
def keyOfBytes : List Byte → Key
  | [] => { space := .primary, opcode := 0 }
  | [op] => { space := .primary, opcode := op }
  | op :: op2 :: _ =>
    if op = 0xCB then { space := .secondary, opcode := op2 } else { space := .primary, opcode := op }

/-- The three bytes, in address order, of an instruction whose bits are numbered as opcode_table.json numbers them (log
entry 9). A secondary row is numbered "as one 16-bit value with 0xCB first" (R90): its bits 15 to 8 are 0xCB and the byte
`op2` stands in bits 7 to 0. Any other row has its first byte in bits 7 to 0 and its later bytes above it. -/
def tableWordBytes (nbits w : Nat) : List Byte :=
  let b0 : Byte := BitVec.ofNat 8 w
  let b1 : Byte := BitVec.ofNat 8 (w / 256)
  let b2 : Byte := BitVec.ofNat 8 (w / 65536)
  if nbits = 16 ∧ b1 = 0xCB then [b1, b0, b2] else [b0, b1, b2]

/-- The instruction the decoder reads from an instruction numbered as opcode_table.json numbers it; `STOP_LENGTH` is the
default 2. -/
def decodeTableWord (nbits w : Nat) : Option Instr :=
  match decode .two (tableWordBytes nbits w) with
  | .ok (i, _) => some i
  | .error _ => none

end Sys2Proof
end

