-- ==== Sys2Proof/Machine/Cycles.lean ====
section
/-! DEFINITION. The metadata table and cycle accounting (40_dispatch.md R103, R108, R109; 70_reset_and_hazards.md R288, R290),
the defaults from the `cycles` fields of opcode_table.json, in T-states. -/

namespace Sys2Proof.Machine

/-- A record with one cost. -/
def plain (n : Nat) : Option Cost := some { base := n, notTaken := none }

/-- A record of a conditional transfer: taken, not taken (R109). -/
def branch (t n : Nat) : Option Cost := some { base := t, notTaken := some n }

/-- Default costs of row 0x of the primary map (R288). -/
def primaryCosts0 : List (Option Cost) :=
  [plain 4, plain 12, plain 8, plain 8, plain 4, plain 4, plain 8, plain 4,
   plain 20, plain 8, plain 8, plain 8, plain 4, plain 4, plain 8, plain 4]

/-- Default costs of row 1x of the primary map (R288). -/
def primaryCosts1 : List (Option Cost) :=
  [plain 4, plain 12, plain 8, plain 8, plain 4, plain 4, plain 8, plain 4,
   plain 12, plain 8, plain 8, plain 8, plain 4, plain 4, plain 8, plain 4]

/-- Default costs of row 2x of the primary map (R288). -/
def primaryCosts2 : List (Option Cost) :=
  [branch 12 8, plain 12, plain 8, plain 8, plain 4, plain 4, plain 8, plain 4,
   branch 12 8, plain 8, plain 8, plain 8, plain 4, plain 4, plain 8, plain 4]

/-- Default costs of row 3x of the primary map (R288). -/
def primaryCosts3 : List (Option Cost) :=
  [branch 12 8, plain 12, plain 8, plain 8, plain 12, plain 12, plain 12, plain 4,
   branch 12 8, plain 8, plain 8, plain 8, plain 4, plain 4, plain 8, plain 4]

/-- Default costs of row 4x of the primary map (R288). -/
def primaryCosts4 : List (Option Cost) :=
  [plain 4, plain 4, plain 4, plain 4, plain 4, plain 4, plain 8, plain 4,
   plain 4, plain 4, plain 4, plain 4, plain 4, plain 4, plain 8, plain 4]

/-- Default costs of row 5x of the primary map (R288). -/
def primaryCosts5 : List (Option Cost) :=
  [plain 4, plain 4, plain 4, plain 4, plain 4, plain 4, plain 8, plain 4,
   plain 4, plain 4, plain 4, plain 4, plain 4, plain 4, plain 8, plain 4]

/-- Default costs of row 6x of the primary map (R288). -/
def primaryCosts6 : List (Option Cost) :=
  [plain 4, plain 4, plain 4, plain 4, plain 4, plain 4, plain 8, plain 4,
   plain 4, plain 4, plain 4, plain 4, plain 4, plain 4, plain 8, plain 4]

/-- Default costs of row 7x of the primary map (R288). -/
def primaryCosts7 : List (Option Cost) :=
  [plain 8, plain 8, plain 8, plain 8, plain 8, plain 8, plain 4, plain 8,
   plain 4, plain 4, plain 4, plain 4, plain 4, plain 4, plain 8, plain 4]

/-- Default costs of row 8x of the primary map (R288). -/
def primaryCosts8 : List (Option Cost) :=
  [plain 4, plain 4, plain 4, plain 4, plain 4, plain 4, plain 8, plain 4,
   plain 4, plain 4, plain 4, plain 4, plain 4, plain 4, plain 8, plain 4]

/-- Default costs of row 9x of the primary map (R288). -/
def primaryCosts9 : List (Option Cost) :=
  [plain 4, plain 4, plain 4, plain 4, plain 4, plain 4, plain 8, plain 4,
   plain 4, plain 4, plain 4, plain 4, plain 4, plain 4, plain 8, plain 4]

/-- Default costs of row Ax of the primary map (R288). -/
def primaryCostsA : List (Option Cost) :=
  [plain 4, plain 4, plain 4, plain 4, plain 4, plain 4, plain 8, plain 4,
   plain 4, plain 4, plain 4, plain 4, plain 4, plain 4, plain 8, plain 4]

/-- Default costs of row Bx of the primary map (R288). -/
def primaryCostsB : List (Option Cost) :=
  [plain 4, plain 4, plain 4, plain 4, plain 4, plain 4, plain 8, plain 4,
   plain 4, plain 4, plain 4, plain 4, plain 4, plain 4, plain 8, plain 4]

/-- Default costs of row Cx of the primary map (R288). -/
def primaryCostsC : List (Option Cost) :=
  [branch 20 8, plain 12, branch 16 12, plain 16, branch 24 12, plain 16, plain 8, plain 16,
   branch 20 8, plain 16, branch 16 12, none, branch 24 12, plain 24, plain 8, plain 16]

/-- Default costs of row Dx of the primary map (R288). -/
def primaryCostsD : List (Option Cost) :=
  [branch 20 8, plain 12, branch 16 12, none, branch 24 12, plain 16, plain 8, plain 16,
   branch 20 8, plain 16, branch 16 12, none, branch 24 12, none, plain 8, plain 16]

/-- Default costs of row Ex of the primary map (R288). -/
def primaryCostsE : List (Option Cost) :=
  [plain 12, plain 12, plain 8, none, none, plain 16, plain 8, plain 16,
   plain 16, plain 4, plain 16, none, none, none, plain 8, plain 16]

/-- Default costs of row Fx of the primary map (R288). -/
def primaryCostsF : List (Option Cost) :=
  [plain 12, plain 12, plain 8, plain 4, none, plain 16, plain 8, plain 16,
   plain 12, plain 8, plain 16, plain 4, none, none, plain 8, plain 16]

/-- The default records of the primary space. The escape byte and the eleven illegal opcodes have none (R83, R84). -/
def primaryCostGrid : List (List (Option Cost)) :=
  [primaryCosts0, primaryCosts1, primaryCosts2, primaryCosts3, primaryCosts4, primaryCosts5, primaryCosts6,
   primaryCosts7, primaryCosts8, primaryCosts9, primaryCostsA, primaryCostsB, primaryCostsC, primaryCostsD,
   primaryCostsE, primaryCostsF]

/-- The default cost of a secondary opcode (R210, R288): 8 for a register form, 12 for BIT b,(HL), 16 for another (HL)
form. -/
def secondaryCost (op : Byte) : Option Cost :=
  if op.toNat % 8 ≠ 6 then plain 8
  else if op.toNat / 64 = 1 then plain 12
  else plain 16

/-- The default `CYCLE_TABLE` (R108). -/
def defaultCost (k : Key) : Option Cost :=
  match k.space with
  | .primary => (primaryCostGrid.getD (k.opcode.toNat / 16) []).getD (k.opcode.toNat % 16) none
  | .secondary => secondaryCost k.opcode

/-- `CYCLE_TABLE[key]` (R103): a change the machine's parameters make, else the default in the machine's unit. -/
def costOf (cfg : Config) (k : Key) : Option Cost :=
  match cfg.costChanges.find? fun r => decide (r.key = k) with
  | some r => r.cost
  | none => (defaultCost k).map (Cost.scale cfg.cycleUnit)

/-- The cost a step returns (R108): the base cost if the branch-taken marker is set or there is no alternate cost. -/
def charge (c : Cost) (taken : Bool) : Nat :=
  match c.notTaken with
  | none => c.base
  | some n => if taken then c.base else n

end Sys2Proof.Machine
end

