-- ==== Sys2Proof/Machine/Fetch.lean ====
section
/-! DEFINITION. What the dispatcher does around a handler (40_dispatch.md R100 to R110): the start of a step, the fetch of an
instruction's bytes, the metadata lookup, the idle step and the cost. -/

namespace Sys2Proof.Machine

/-- `fetch8` (R14, R102): the byte at PC, and PC past it. -/
def fetch8 (s : State) : Except Fault (Byte × State) :=
  match memRead s s.pc .fetch with
  | .error f => .error f
  | .ok (v, t) => .ok (v, { t with pc := t.pc + 1#16 })

/-- Fetch a number of bytes in address order. -/
def fetchBytes : Nat → State → Except Fault (List Byte × State)
  | 0, s => .ok ([], s)
  | n + 1, s =>
    match fetch8 s with
    | .error f => .error f
    | .ok (v, s1) =>
      match fetchBytes n s1 with
      | .error f => .error f
      | .ok (vs, s2) => .ok (v :: vs, s2)

/-- Fetch the opcode byte or bytes (R102): after the escape byte 0xCB the key is in the secondary space. -/
def fetchKey (s : State) : Except Fault (Key × State) :=
  match fetch8 s with
  | .error f => .error f
  | .ok (op, s1) =>
    if op = 0xCB then
      match fetch8 s1 with
      | .error f => .error f
      | .ok (op2, s2) => .ok ({ space := .secondary, opcode := op2 }, s2)
    else .ok ({ space := .primary, opcode := op }, s1)

/-- An instruction fetched whole: what it is, its metadata, and the state with PC past its last byte. -/
structure Fetched where
  instr : Instr
  cost  : Cost
  state : State
  deriving DecidableEq, Repr

/-- Fetch one instruction (R102 to R104): the opcode bytes, the metadata record (its lack is MalformedOpcode, R103, before
any operand byte is read, R261), then the operand bytes (log entry 7). -/
def fetchInstr (s : State) : Except Fault Fetched :=
  match fetchKey s with
  | .error f => .error f
  | .ok (k, s1) =>
    match costOf s.cfg k with
    | none => .error (.malformedOpcode k.space k.opcode s.pc)
    | some cost =>
      match fetchBytes (k.operandBytes s.cfg.stopLength) s1 with
      | .error f => .error f
      | .ok (ops, s2) =>
        match decode s.cfg.stopLength (k.bytes ++ ops) with
        | .error _ => .error (.invariantViolation "the decoder ran out of bytes")
        | .ok (i, _) => .ok { instr := i, cost := cost, state := s2 }

/-- The start of every step (R100, R101): TAKEN is cleared, then a pending interrupt enable is promoted. -/
def startStep (s : State) : State :=
  if s.imePending then { s with taken := false, ime := true, imePending := false } else { s with taken := false }

/-- The core executes instructions (R254): neither halted nor stopped. -/
def State.running (s : State) : Bool := !s.halted && !s.stopped

/-- An idle step's result (R110): nothing changes but the start of the step; it returns `IDLE_CYCLES`. -/
def idle (s : State) : State := { s with cycles := s.cfg.idleCycles }

/-- The end of an instruction's step (R105, R108): PC is left alone, the cost is returned. -/
def finish (c : Cost) (o : Out) : Out :=
  match o with
  | .next t => .next { t with cycles := charge c t.taken }
  | .fault f => .fault f
  | .refused r => .refused r

/-- Store bytes in RAM from an address on. -/
def State.storeBytes (s : State) (a : Word) : List Byte → State
  | [] => s
  | v :: vs => State.storeBytes { s with mem := s.mem.write a.toNat v } (a + 1#16) vs

end Sys2Proof.Machine
end

