-- ==== Sys2Proof/Machine/Step.lean ====
section
/-! DEFINITION. The whole step (40_dispatch.md R113). -/

namespace Sys2Proof.Machine

/-- One call of `step` (R113): an idle step while halted or stopped, else one instruction. -/
def step (s : State) : Host.Outcome State Fault Refusal :=
  let s0 := startStep s
  if s0.running then orFault (fetchInstr s0) fun f => finish f.cost (exec f.instr f.state)
  else .next (idle s0)

/-- `s` with an instruction, numbered as opcode_table.json numbers it, stored in RAM where the next step fetches: at PC,
three bytes (the longest instruction), and the core running so that it does fetch (log entry 10). -/
def State.withFetchWord (s : State) (nbits w : Nat) : State :=
  State.storeBytes { s with halted := false, stopped := false } s.pc (tableWordBytes nbits w)

end Sys2Proof.Machine
end

