-- ==== Sys2Proof/Machine/HostOps.lean ====
section
/-! DEFINITION. The host, the only other actor (60_exceptions.md R264): what it may do between two steps. -/

namespace Sys2Proof.Machine

/-- What happens next at the core's interface (R264): the host calls `step`, wakes the core, delivers an interrupt, writes
memory through its own side, or discards the processor state and creates a new one. Reading changes nothing, and the
host has no operation that writes a register (D27). -/
inductive HostAct where
  | step
  | wake
  | service (vector : Word)
  | store (addr : Word) (value : Byte)
  | create (profile : ResetProfile)
  deriving DecidableEq, Repr

/-- One act of the host. A new processor state keeps the memory, the devices and the parameters, which are not the core's
(R281). -/
def act (x : HostAct) (s : State) : Out :=
  match x with
  | .step => Sys2Proof.Machine.step s
  | .wake => .next (Sys2Proof.Machine.wake s)
  | .service vector => Sys2Proof.Machine.service vector s
  | .store addr value => .next { s with mem := s.mem.write addr.toNat value }
  | .create profile => .next (State.create profile s.cfg s.mem s.io)

/-- A sequence of the host's acts, stopping at the first error. A refused service changes nothing and the host goes on
(R266). -/
def actAll : List HostAct → State → Out
  | [], s => .next s
  | x :: xs, s =>
    match act x s with
    | .next t => actAll xs t
    | .fault f => .fault f
    | .refused _ => actAll xs s

end Sys2Proof.Machine
end

