-- ==== Sys2Proof/Safety.lean ====
section
/-! DEFINITION. The terms claims use: the invariant, the steps that end in an error, and the accesses and effects an
instruction form has by the spec's tables (10_state.md R29 to R32; 20_memory.md R58). -/

namespace Sys2Proof.Machine

/-- The invariant: memory is in canonical form, and the core is not both halted and stopped (48_system.md R254). -/
def State.Inv (s : State) : Prop := s.mem.wf = true ∧ (s.halted && s.stopped) = false

/-- An address that data accesses reach as plain RAM, without fault. -/
def State.ramAt (s : State) (a : Word) : Prop :=
  s.cfg.isDevice a = false ∧ s.cfg.faultInfo a .read = none ∧ s.cfg.faultInfo a .write = none

/-- Plain RAM holds these bytes from an address on, wrapping at 0xFFFF (R57), and fetching them does not fault. -/
def State.fetchesAt (s : State) (a : Word) : List Byte → Prop
  | [] => True
  | v :: vs =>
    (s.cfg.isDevice a = false ∧ s.cfg.faultInfo a .fetch = none ∧ s.mem.read a.toNat = v) ∧
      State.fetchesAt s (a + 1#16) vs

/-- The second operand of an 8-bit operator can be read without fault (R150). -/
def srcOk (src : Src8) (s : State) : Prop :=
  match src with
  | .reg _ | .imm _ => True
  | .ind => s.cfg.faultInfo s.hl .read = none

/-- The value of the second operand (R150). -/
def srcValue (src : Src8) (s : State) : Byte :=
  match src with
  | .reg r => s.getReg r
  | .imm v => v
  | .ind => s.peek s.hl

/-- The state once the second operand is read (R60): only a device can have noticed. -/
def srcAfter (src : Src8) (s : State) : State :=
  match src with
  | .reg _ | .imm _ => s
  | .ind => s.afterRead s.hl

/-- An 8-bit operand can be read without fault (R210). -/
def locReadOk (x : Loc8) (s : State) : Prop :=
  match x with
  | .reg _ => True
  | .ind => s.cfg.faultInfo s.hl .read = none

/-- An 8-bit operand can be read and written without fault (R210). -/
def locOk (x : Loc8) (s : State) : Prop :=
  match x with
  | .reg _ => True
  | .ind => s.cfg.faultInfo s.hl .read = none ∧ s.cfg.faultInfo s.hl .write = none

/-- The value of an 8-bit operand (R73). -/
def locValue (x : Loc8) (s : State) : Byte :=
  match x with
  | .reg r => s.getReg r
  | .ind => s.peek s.hl

/-- The state once an 8-bit operand is read (R60). -/
def locAfter (x : Loc8) (s : State) : State :=
  match x with
  | .reg _ => s
  | .ind => s.afterRead s.hl

/-- The state once an 8-bit operand is read and a value written back to it (R210). -/
def locStored (x : Loc8) (s : State) (v : Byte) : State :=
  match x with
  | .reg r => s.setReg r v
  | .ind => (s.afterRead s.hl).poke s.hl v

/-- Both bytes of a push can be written without fault (R143). -/
def State.pushOk (s : State) : Prop :=
  s.cfg.faultInfo (s.sp - 2#16) .write = none ∧ s.cfg.faultInfo (s.sp - 2#16 + 1#16) .write = none

/-- The state after a push (R14): SP lower by 2, the low byte at the new SP, then the high byte above it. -/
def State.pushed (s : State) (v : Word) : State :=
  (({ s with sp := s.sp - 2#16 }).poke (s.sp - 2#16) (BitVec.ofNat 8 (v.toNat % 256))).poke (s.sp - 2#16 + 1#16)
    (BitVec.ofNat 8 (v.toNat / 256))

/-- Both bytes of a pop can be read without fault (R144). -/
def State.popOk (s : State) : Prop :=
  s.cfg.faultInfo s.sp .read = none ∧ s.cfg.faultInfo (s.sp + 1#16) .read = none

/-- The word a pop reads (R14): the low byte at SP, read first, the high byte above it. -/
def State.poppedWord (s : State) : Word :=
  BitVec.ofNat 16 (256 * ((s.afterRead s.sp).peek (s.sp + 1#16)).toNat + (s.peek s.sp).toNat)

/-- The state after a pop's reads (R14): SP higher by 2. -/
def State.popped (s : State) : State := { (s.afterRead s.sp).afterRead (s.sp + 1#16) with sp := s.sp + 2#16 }

/-- A packed binary-coded decimal byte (R16): both nibbles are decimal digits. -/
def bcdValid (v : Byte) : Prop := v.toNat % 16 ≤ 9 ∧ v.toNat / 16 ≤ 9

/-- The number a packed binary-coded decimal byte stands for (R16). -/
def bcdValue (v : Byte) : Nat := 10 * (v.toNat / 16) + v.toNat % 16

end Sys2Proof.Machine

namespace Sys2Proof

/-- The memory interface refuses no access, as the default `MEMORY` (R50, R262). -/
def Config.faultless (cfg : Config) : Prop := cfg.faults = []

/-- A well-formed `CYCLE_TABLE` as far as its keys go (R109): a record for every non-illegal key of both spaces. -/
def Config.costsComplete (cfg : Config) : Prop :=
  ∀ k : Key, (k.space = .primary → k.opcode ≠ 0xCB ∧ k.opcode ∉ illegalOpcodes) → (Machine.costOf cfg k).isSome = true

/-- The addresses of the data bytes an instruction reads, in the order it reads them (R58, R59). -/
def Form.readAddrs (f : Form) (s : Machine.State) : List Word :=
  match f with
  | .ldRegInd _ => [s.hl]
  | .ldAPtr p => [s.ptrAddr p]
  | .ldAAbs w => [w]
  | .ldhAPage n => [highPage n]
  | .ldhAC => [highPage s.c]
  | .alu _ .ind => [s.hl]
  | .inc8 .ind | .dec8 .ind | .shift _ .ind | .bit _ .ind | .res _ .ind | .set _ .ind => [s.hl]
  | .pop _ | .ret | .reti => [s.sp, s.sp + 1#16]
  | .retCC cc => if Machine.condHolds cc s.flags then [s.sp, s.sp + 1#16] else []
  | .ldRegReg _ _ | .ldRegImm _ _ | .ldIndReg _ | .ldIndImm _ | .ldPtrA _ | .ldAbsA _ | .ldhPageA _ | .ldhCA
  | .ldPairImm _ _ | .ldAbsSP _ | .ldSPHL | .push _ | .ldHLSPOff _ | .alu _ (.reg _) | .alu _ (.imm _)
  | .inc8 (.reg _) | .dec8 (.reg _) | .addHL _ | .inc16 _ | .dec16 _ | .addSPOff _ | .rlca | .rrca | .rla | .rra
  | .daa | .cpl | .scf | .ccf | .nop | .shift _ (.reg _) | .bit _ (.reg _) | .res _ (.reg _) | .set _ (.reg _)
  | .jp _ | .jpCC _ _ | .jpHL | .jr _ | .jrCC _ _ | .call _ | .callCC _ _ | .rst _ | .halt | .stop | .di | .ei
  | .illegal _ => []

/-- The addresses of the bytes an instruction stores, in the order it stores them (R58, R59). -/
def Form.storeAddrs (f : Form) (s : Machine.State) : List Word :=
  match f with
  | .ldIndReg _ | .ldIndImm _ => [s.hl]
  | .ldPtrA p => [s.ptrAddr p]
  | .ldAbsA w => [w]
  | .ldhPageA n => [highPage n]
  | .ldhCA => [highPage s.c]
  | .ldAbsSP w => [w, w + 1#16]
  | .push _ | .call _ | .rst _ => [s.sp - 2#16, s.sp - 2#16 + 1#16]
  | .callCC cc _ => if Machine.condHolds cc s.flags then [s.sp - 2#16, s.sp - 2#16 + 1#16] else []
  | .inc8 .ind | .dec8 .ind | .shift _ .ind | .res _ .ind | .set _ .ind => [s.hl]
  | .ldRegReg _ _ | .ldRegImm _ _ | .ldRegInd _ | .ldAPtr _ | .ldAAbs _ | .ldhAPage _ | .ldhAC | .ldPairImm _ _
  | .ldSPHL | .pop _ | .ldHLSPOff _ | .alu _ _ | .inc8 (.reg _) | .dec8 (.reg _) | .addHL _ | .inc16 _ | .dec16 _
  | .addSPOff _ | .rlca | .rrca | .rla | .rra | .daa | .cpl | .scf | .ccf | .nop | .shift _ (.reg _) | .bit _ _
  | .res _ (.reg _) | .set _ (.reg _) | .jp _ | .jpCC _ _ | .jpHL | .jr _ | .jrCC _ _ | .ret | .retCC _ | .reti
  | .halt | .stop | .di | .ei | .illegal _ => []

/-- The bytes an instruction stores, in the order of `Form.storeAddrs`. -/
def Form.storeBytes (f : Form) (s : Machine.State) : List Byte :=
  match f with
  | .ldIndReg r => [s.getReg r]
  | .ldIndImm v => [v]
  | .ldPtrA _ | .ldAbsA _ | .ldhPageA _ | .ldhCA => [s.a]
  | .ldAbsSP _ => [loByte s.sp, hiByte s.sp]
  | .push p => [loByte (s.getStackPair p), hiByte (s.getStackPair p)]
  | .call _ | .rst _ => [loByte s.pc, hiByte s.pc]
  | .callCC cc _ => if Machine.condHolds cc s.flags then [loByte s.pc, hiByte s.pc] else []
  | .inc8 .ind => [(Machine.incResult (s.peek s.hl) s.flags).1]
  | .dec8 .ind => [(Machine.decResult (s.peek s.hl) s.flags).1]
  | .shift op .ind => [(Machine.shiftResult op (s.peek s.hl) s.flags.c).1]
  | .res b .ind => [Machine.resetBit b (s.peek s.hl)]
  | .set b .ind => [Machine.setBit b (s.peek s.hl)]
  | .ldRegReg _ _ | .ldRegImm _ _ | .ldRegInd _ | .ldAPtr _ | .ldAAbs _ | .ldhAPage _ | .ldhAC | .ldPairImm _ _
  | .ldSPHL | .pop _ | .ldHLSPOff _ | .alu _ _ | .inc8 (.reg _) | .dec8 (.reg _) | .addHL _ | .inc16 _ | .dec16 _
  | .addSPOff _ | .rlca | .rrca | .rla | .rra | .daa | .cpl | .scf | .ccf | .nop | .shift _ (.reg _) | .bit _ _
  | .res _ (.reg _) | .set _ (.reg _) | .jp _ | .jpCC _ _ | .jpHL | .jr _ | .jrCC _ _ | .ret | .retCC _ | .reti
  | .halt | .stop | .di | .ei | .illegal _ => []

/-- The data accesses of an instruction, in order: an instruction that reads and stores reads first (R59). -/
def Form.accesses (f : Form) (s : Machine.State) : List (Access × Word) :=
  (f.readAddrs s).map (fun a => (.read, a)) ++ (f.storeAddrs s).map (fun a => (.write, a))

/-- The fault of the first access of a list that the memory interface refuses (R62, R262). -/
def Config.firstFault (cfg : Config) (l : List (Access × Word)) : Option Machine.Fault :=
  l.findSome? fun x => (cfg.faultInfo x.2 x.1).map fun info => .memoryFault x.2 x.1 info

/-- What a device event says of the access: a read or a write, and the address. -/
def IoEvent.access : IoEvent → Access × Word
  | .read a _ => (.read, a)
  | .write a _ => (.write, a)

/-- A conditional control transfer (R109). -/
def Form.isConditional : Form → Bool
  | .jpCC _ _ | .jrCC _ _ | .callCC _ _ | .retCC _ => true
  | .ldRegReg _ _ | .ldRegImm _ _ | .ldRegInd _ | .ldIndReg _ | .ldIndImm _ | .ldAPtr _ | .ldPtrA _ | .ldAbsA _
  | .ldAAbs _ | .ldhPageA _ | .ldhAPage _ | .ldhCA | .ldhAC | .ldPairImm _ _ | .ldAbsSP _ | .ldSPHL | .push _
  | .pop _ | .ldHLSPOff _ | .alu _ _ | .inc8 _ | .dec8 _ | .addHL _ | .inc16 _ | .dec16 _ | .addSPOff _ | .rlca
  | .rrca | .rla | .rra | .daa | .cpl | .scf | .ccf | .nop | .shift _ _ | .bit _ _ | .res _ _ | .set _ _ | .jp _
  | .jpHL | .jr _ | .call _ | .ret | .reti | .rst _ | .halt | .stop | .di | .ei | .illegal _ => false

/-- The instruction transfers control: an unconditional transfer, or a conditional one whose condition holds (R235). -/
def Form.takes (f : Form) (s : Machine.State) : Bool :=
  match f with
  | .jpCC cc _ | .jrCC cc _ | .callCC cc _ | .retCC cc => Machine.condHolds cc s.flags
  | .jp _ | .jpHL | .jr _ | .call _ | .ret | .reti | .rst _ => true
  | .ldRegReg _ _ | .ldRegImm _ _ | .ldRegInd _ | .ldIndReg _ | .ldIndImm _ | .ldAPtr _ | .ldPtrA _ | .ldAbsA _
  | .ldAAbs _ | .ldhPageA _ | .ldhAPage _ | .ldhCA | .ldhAC | .ldPairImm _ _ | .ldAbsSP _ | .ldSPHL | .push _
  | .pop _ | .ldHLSPOff _ | .alu _ _ | .inc8 _ | .dec8 _ | .addHL _ | .inc16 _ | .dec16 _ | .addSPOff _ | .rlca
  | .rrca | .rla | .rra | .daa | .cpl | .scf | .ccf | .nop | .shift _ _ | .bit _ _ | .res _ _ | .set _ _ | .halt
  | .stop | .di | .ei | .illegal _ => false

/-- The default cost of a form, in T-states, by the classes of R288 and R109. -/
def Form.defaultCost : Form → Option Cost
  | .ldRegReg _ _ | .alu _ (.reg _) | .inc8 (.reg _) | .dec8 (.reg _) | .rlca | .rrca | .rla | .rra | .daa | .cpl
  | .scf | .ccf | .nop | .halt | .stop | .di | .ei | .jpHL => some { base := 4, notTaken := none }
  | .alu _ (.imm _) | .alu _ .ind | .ldRegImm _ _ | .ldRegInd _ | .ldIndReg _ | .ldAPtr _ | .ldPtrA _ | .ldhCA
  | .ldhAC | .inc16 _ | .dec16 _ | .addHL _ | .ldSPHL => some { base := 8, notTaken := none }
  | .ldPairImm _ _ | .ldIndImm _ | .inc8 .ind | .dec8 .ind | .ldhPageA _ | .ldhAPage _ | .pop _ | .ldHLSPOff _
  | .jr _ => some { base := 12, notTaken := none }
  | .ldAbsA _ | .ldAAbs _ | .push _ | .addSPOff _ | .jp _ | .ret | .reti | .rst _ => some { base := 16, notTaken := none }
  | .ldAbsSP _ => some { base := 20, notTaken := none }
  | .call _ => some { base := 24, notTaken := none }
  | .shift _ (.reg _) | .bit _ (.reg _) | .res _ (.reg _) | .set _ (.reg _) => some { base := 8, notTaken := none }
  | .bit _ .ind => some { base := 12, notTaken := none }
  | .shift _ .ind | .res _ .ind | .set _ .ind => some { base := 16, notTaken := none }
  | .jrCC _ _ => some { base := 12, notTaken := some 8 }
  | .jpCC _ _ => some { base := 16, notTaken := some 12 }
  | .callCC _ _ => some { base := 24, notTaken := some 12 }
  | .retCC _ => some { base := 20, notTaken := some 8 }
  | .illegal _ => none

/-- A cell of the flag table R29: unchanged, forced to 0, forced to 1, or computed. -/
inductive FlagCell where
  | keep
  | clear
  | one
  | computed
  deriving DecidableEq, Repr

/-- What a cell says of a flag before and after. -/
def FlagCell.allows (x : FlagCell) (before after : Bool) : Prop :=
  match x with
  | .keep => after = before
  | .clear => after = false
  | .one => after = true
  | .computed => True

/-- The row of R29 for a form: the cells of fZ, fN, fH, fC. -/
def Form.flagCells : Form → FlagCell × FlagCell × FlagCell × FlagCell
  | .alu .add _ | .alu .adc _ => (.computed, .clear, .computed, .computed)
  | .alu .sub _ | .alu .sbc _ | .alu .cp _ => (.computed, .one, .computed, .computed)
  | .alu .and _ => (.computed, .clear, .one, .clear)
  | .alu .or _ | .alu .xor _ => (.computed, .clear, .clear, .clear)
  | .inc8 _ => (.computed, .clear, .computed, .keep)
  | .dec8 _ => (.computed, .one, .computed, .keep)
  | .addHL _ => (.keep, .clear, .computed, .computed)
  | .addSPOff _ | .ldHLSPOff _ => (.clear, .clear, .computed, .computed)
  | .rlca | .rrca | .rla | .rra => (.clear, .clear, .clear, .computed)
  | .shift .swap _ => (.computed, .clear, .clear, .clear)
  | .shift .rlc _ | .shift .rrc _ | .shift .rl _ | .shift .rr _ | .shift .sla _ | .shift .sra _ | .shift .srl _ =>
    (.computed, .clear, .clear, .computed)
  | .bit _ _ => (.computed, .clear, .one, .keep)
  | .daa => (.computed, .keep, .clear, .computed)
  | .cpl => (.keep, .one, .one, .keep)
  | .scf => (.keep, .clear, .clear, .one)
  | .ccf => (.keep, .clear, .clear, .computed)
  | .pop .af => (.computed, .computed, .computed, .computed)
  | .ldRegReg _ _ | .ldRegImm _ _ | .ldRegInd _ | .ldIndReg _ | .ldIndImm _ | .ldAPtr _ | .ldPtrA _ | .ldAbsA _
  | .ldAAbs _ | .ldhPageA _ | .ldhAPage _ | .ldhCA | .ldhAC | .ldPairImm _ _ | .ldAbsSP _ | .ldSPHL | .push _
  | .pop .bc | .pop .de | .pop .hl | .inc16 _ | .dec16 _ | .nop | .res _ _ | .set _ _ | .jp _ | .jpCC _ _ | .jpHL
  | .jr _ | .jrCC _ _ | .call _ | .callCC _ _ | .ret | .retCC _ | .reti | .rst _ | .halt | .stop | .di | .ei
  | .illegal _ => (.keep, .keep, .keep, .keep)

/-- The flags a condition tests (R75). -/
def Cond.flagRead : Cond → Machine.Flags
  | .nz | .z => { z := true, n := false, h := false, c := false }
  | .nc | .c => { z := false, n := false, h := false, c := true }

/-- The readers of the flags (the list under the table of R29): which flags a form's effect depends on. A flag a form only
leaves unchanged is not read. -/
def Form.flagsRead : Form → Machine.Flags
  | .jpCC cc _ | .jrCC cc _ | .callCC cc _ | .retCC cc => cc.flagRead
  | .alu .adc _ | .alu .sbc _ | .rla | .rra | .shift .rl _ | .shift .rr _ | .ccf =>
    { z := false, n := false, h := false, c := true }
  | .daa => { z := false, n := true, h := true, c := true }
  | .push .af => { z := true, n := true, h := true, c := true }
  | .ldRegReg _ _ | .ldRegImm _ _ | .ldRegInd _ | .ldIndReg _ | .ldIndImm _ | .ldAPtr _ | .ldPtrA _ | .ldAbsA _
  | .ldAAbs _ | .ldhPageA _ | .ldhAPage _ | .ldhCA | .ldhAC | .ldPairImm _ _ | .ldAbsSP _ | .ldSPHL | .push .bc
  | .push .de | .push .hl | .pop _ | .ldHLSPOff _ | .alu .add _ | .alu .sub _ | .alu .and _ | .alu .xor _
  | .alu .or _ | .alu .cp _ | .inc8 _ | .dec8 _ | .addHL _ | .inc16 _ | .dec16 _ | .addSPOff _ | .rlca | .rrca
  | .cpl | .scf | .nop | .shift .rlc _ | .shift .rrc _ | .shift .sla _ | .shift .sra _ | .shift .swap _
  | .shift .srl _ | .bit _ _ | .res _ _ | .set _ _ | .jp _ | .jpHL | .jr _ | .call _ | .ret | .reti | .rst _
  | .halt | .stop | .di | .ei | .illegal _ => { z := false, n := false, h := false, c := false }

/-- Two flag states agree on the flags a mask names. -/
def Machine.Flags.agreeOn (mask f g : Machine.Flags) : Prop :=
  (mask.z = true → f.z = g.z) ∧ (mask.n = true → f.n = g.n) ∧ (mask.h = true → f.h = g.h) ∧
    (mask.c = true → f.c = g.c)

/-- A flag that a cell of R29 says is written has one value whatever the flags were. -/
def FlagCell.settles (x : FlagCell) (one other : Bool) : Prop := x ≠ .keep → one = other

/-- The halves of a register pair; SP has none (R24). -/
def Pair.halves : Pair → List Reg8
  | .bc => [.b, .c]
  | .de => [.d, .e]
  | .hl => [.h, .l]
  | .sp => []

/-- The 8-bit registers a form may write (R22). -/
def Form.regsWritten : Form → List Reg8
  | .ldRegReg dst _ | .ldRegImm dst _ | .ldRegInd dst => [dst]
  | .ldAPtr .bc | .ldAPtr .de => [.a]
  | .ldAPtr .hlInc | .ldAPtr .hlDec => [.a, .h, .l]
  | .ldPtrA .hlInc | .ldPtrA .hlDec => [.h, .l]
  | .ldAAbs _ | .ldhAPage _ | .ldhAC => [.a]
  | .ldPairImm p _ | .inc16 p | .dec16 p => p.halves
  | .pop .bc => [.b, .c]
  | .pop .de => [.d, .e]
  | .pop .hl => [.h, .l]
  | .pop .af => [.a]
  | .ldHLSPOff _ | .addHL _ => [.h, .l]
  | .alu .cp _ => []
  | .alu .add _ | .alu .adc _ | .alu .sub _ | .alu .sbc _ | .alu .and _ | .alu .xor _ | .alu .or _ => [.a]
  | .inc8 (.reg r) | .dec8 (.reg r) | .shift _ (.reg r) | .res _ (.reg r) | .set _ (.reg r) => [r]
  | .rlca | .rrca | .rla | .rra | .daa | .cpl => [.a]
  | .ldIndReg _ | .ldIndImm _ | .ldPtrA .bc | .ldPtrA .de | .ldAbsA _ | .ldhPageA _ | .ldhCA | .ldAbsSP _ | .ldSPHL
  | .push _ | .inc8 .ind | .dec8 .ind | .addSPOff _ | .scf | .ccf | .nop | .shift _ .ind | .bit _ _ | .res _ .ind
  | .set _ .ind | .jp _ | .jpCC _ _ | .jpHL | .jr _ | .jrCC _ _ | .call _ | .callCC _ _ | .ret | .retCC _ | .reti
  | .rst _ | .halt | .stop | .di | .ei | .illegal _ => []

/-- Whether a form may write SP (R30). -/
def Form.writesSP : Form → Bool
  | .ldPairImm .sp _ | .ldSPHL | .inc16 .sp | .dec16 .sp | .addSPOff _ | .push _ | .pop _ | .call _ | .callCC _ _
  | .ret | .retCC _ | .reti | .rst _ => true
  | .ldRegReg _ _ | .ldRegImm _ _ | .ldRegInd _ | .ldIndReg _ | .ldIndImm _ | .ldAPtr _ | .ldPtrA _ | .ldAbsA _
  | .ldAAbs _ | .ldhPageA _ | .ldhAPage _ | .ldhCA | .ldhAC | .ldPairImm .bc _ | .ldPairImm .de _
  | .ldPairImm .hl _ | .ldAbsSP _ | .ldHLSPOff _ | .alu _ _ | .inc8 _ | .dec8 _ | .addHL _ | .inc16 .bc
  | .inc16 .de | .inc16 .hl | .dec16 .bc | .dec16 .de | .dec16 .hl | .rlca | .rrca | .rla | .rra | .daa | .cpl
  | .scf | .ccf | .nop | .shift _ _ | .bit _ _ | .res _ _ | .set _ _ | .jp _ | .jpCC _ _ | .jpHL | .jr _
  | .jrCC _ _ | .halt | .stop | .di | .ei | .illegal _ => false

end Sys2Proof
end

