-- ==== Sys2Proof/Certificates/Slice0/Obligations.lean ====
section
/-! DEFINITION. The statements for the provers, one `Prop` each, from the numbered rules of spec/. A statement about an
instruction form speaks of every row of the opcode table with that form: `i.form` is the row's form (Machine/Forms.lean), and
`Obligations.EncodingFollowsFields` ties it to the row's opcode. An equality of whole states is the frame: every field not
named in it is unchanged. -/

open Sys2Proof Sys2Proof.Machine

/-! ### Reset -/

/-- R38, R39, R280: with `RESET_PROFILE = zero` every field of R37 is 0 at creation; with `post_boot` the fields hold what the
boot ROM leaves; whatever memory, devices and parameters the core is created in front of. `State.reset` has the zero profile,
the default. -/
def Obligations.ResetProfiles : Prop :=
  (∀ (cfg : Config) (mem : Memory) (io : List IoEvent),
    let s := State.create .zero cfg mem io
    (s.a = 0 ∧ s.b = 0 ∧ s.c = 0 ∧ s.d = 0 ∧ s.e = 0 ∧ s.h = 0 ∧ s.l = 0) ∧
      (s.flags.z = false ∧ s.flags.n = false ∧ s.flags.h = false ∧ s.flags.c = false ∧ s.flags.pack = 0) ∧
      (s.sp = 0 ∧ s.pc = 0) ∧
      (s.ime = false ∧ s.imePending = false ∧ s.halted = false ∧ s.stopped = false ∧ s.taken = false)) ∧
  (∀ (cfg : Config) (mem : Memory) (io : List IoEvent),
    let s := State.create .postBoot cfg mem io
    (s.a = 0x01 ∧ s.b = 0x00 ∧ s.c = 0x13 ∧ s.d = 0x00 ∧ s.e = 0xD8 ∧ s.h = 0x01 ∧ s.l = 0x4D) ∧
      (s.flags.z = true ∧ s.flags.n = false ∧ s.flags.h = true ∧ s.flags.c = true ∧ s.flags.pack = 0xB0) ∧
      (s.sp = 0xFFFE ∧ s.pc = 0x0100) ∧
      (s.ime = false ∧ s.imePending = false ∧ s.halted = false ∧ s.stopped = false ∧ s.taken = false)) ∧
  ∃ (cfg : Config) (mem : Memory) (io : List IoEvent), State.reset = State.create .zero cfg mem io

/-! ### Encoding -/

/-- Words written out from the field patterns of R81 and R82, one or two for each family, and what they decode to. -/
def Obligations.SampleWordsDecode : Prop :=
  decode .two [0b01001010] = .ok (.ldCD, []) ∧
  decode .two [0b00101110, 0x7F] = .ok (.ldLImm 0x7F, []) ∧
  decode .two [0b01110111] = .ok (.ldAtHLA, []) ∧
  decode .two [0b00100001, 0x34, 0x12] = .ok (.ldHLImm 0x1234, []) ∧
  decode .two [0b11110101] = .ok (.pushAF, []) ∧
  decode .two [0b10001110] = .ok (.adcAAtHL, []) ∧
  decode .two [0b11111110, 0x40] = .ok (.cpImm 0x40, []) ∧
  decode .two [0b00011011] = .ok (.decDE, []) ∧
  decode .two [0b00011111] = .ok (.rra, []) ∧
  decode .two [0xCB, 0b00101001] = .ok (.sraC, []) ∧
  decode .two [0xCB, 0b01111110] = .ok (.bit7AtHL, []) ∧
  decode .two [0b11011010, 0x00, 0x80] = .ok (.jpC 0x8000, []) ∧
  decode .two [0b11011111] = .ok (.rst18, []) ∧
  decode .two [0b00010000, 0xCB] = .ok (.stop, []) ∧
  decode .two [0b11101101] = .ok (.illegalED, [])

/-- R87, R84, R83: any three bytes decode; after the escape byte the second byte alone selects the row, and nothing else is
consumed; the result is no instruction exactly for the eleven illegal first bytes. -/
def Obligations.DecodingIsTotal : Prop :=
  ∀ (sl : StopLength) (b0 b1 b2 : Byte) (rest : List Byte),
    ∃ i r, decode sl (b0 :: b1 :: b2 :: rest) = .ok (i, r) ∧
      (i.wf = false ↔ b0 ∈ illegalOpcodes) ∧
      (b0 = 0xCB → i = secondaryRow b1 ∧ r = b2 :: rest) ∧
      (r = b1 :: b2 :: rest ∨ r = b2 :: rest ∨ r = rest)

/-- Decoding the encoding of any row of the table, whatever its operands and whatever follows, gives the row back and leaves
what follows. -/
def Obligations.DecodeEncodeRoundTrip : Prop :=
  ∀ (sl : StopLength) (i : Instr) (rest : List Byte), decode sl (encode sl i ++ rest) = .ok (i, rest)

/-- The other direction: what decodes to an instruction other than STOP is its encoding; what decodes to STOP is 0x10 and, with
`STOP_LENGTH` 2, one ignored byte (R86). -/
def Obligations.EncodeDecodeRoundTrip : Prop :=
  ∀ (sl : StopLength) (bytes rest : List Byte) (i : Instr), decode sl bytes = .ok (i, rest) →
    if i = .stop then
      match sl with
      | .one => bytes = 0x10 :: rest
      | .two => ∃ v, bytes = 0x10 :: v :: rest
    else bytes = encode sl i ++ rest

/-- The operand fields have the values of R73, R74, R75, R81 (R150) and R82 (R210), and the encoding of every row is the field
pattern of its form (R71, R79 to R82) with those values in their places. -/
def Obligations.EncodingFollowsFields : Prop :=
  ([Reg8.b, .c, .d, .e, .h, .l, .a].map Reg8.code = [0, 1, 2, 3, 4, 5, 7] ∧ Loc8.ind.code = 6 ∧
    (∀ r : Reg8, (Loc8.reg r).code = r.code)) ∧
  ([Pair.bc, .de, .hl, .sp].map Pair.code = [0, 1, 2, 3] ∧
    [StackPair.bc, .de, .hl, .af].map StackPair.code = [0, 1, 2, 3] ∧
    [Ptr.bc, .de, .hlInc, .hlDec].map Ptr.code = [0, 1, 2, 3] ∧
    [Cond.nz, .z, .nc, .c].map Cond.code = [0, 1, 2, 3]) ∧
  ([AluOp.add, .adc, .sub, .sbc, .and, .xor, .or, .cp].map AluOp.code = [0, 1, 2, 3, 4, 5, 6, 7] ∧
    [ShiftOp.rlc, .rrc, .rl, .rr, .sla, .sra, .swap, .srl].map ShiftOp.code = [0, 1, 2, 3, 4, 5, 6, 7]) ∧
  ∀ (sl : StopLength) (i : Instr), encode sl i = i.form.fieldBytes sl

/-! ### The dispatcher -/

/-- R102 to R108, R113: when the bytes at PC are one instruction whose key has a cost record, the step of a running core is
exec of it, on the state with the branch-taken marker cleared, a pending interrupt enable promoted and PC past its bytes; a
next state then carries the base cost, or the not-taken cost where there is one and no transfer was made. -/
def Obligations.StepRunsDecodedInstruction : Prop :=
  ∀ (s : State) (bytes : List Byte) (i : Instr) (c : Cost),
    s.running = true → s.fetchesAt s.pc bytes → decode s.cfg.stopLength bytes = .ok (i, []) →
    costOf s.cfg (keyOfBytes bytes) = some c →
    step s =
      match exec i { s with taken := false, ime := s.ime || s.imePending, imePending := false,
                            pc := s.pc + BitVec.ofNat 16 bytes.length } with
      | .next t =>
        .next { t with cycles :=
          match c.notTaken with
          | none => c.base
          | some n => if t.taken = true then c.base else n }
      | .fault f => .fault f
      | .refused r => .refused r

/-- R105: after a step that transfers no control, PC is its old value plus the length of the instruction, which is 1, 2 or 3
(R70). -/
def Obligations.PcAdvancesByLength : Prop :=
  ∀ (s t : State) (bytes : List Byte) (i : Instr),
    s.running = true → s.fetchesAt s.pc bytes → decode s.cfg.stopLength bytes = .ok (i, []) → step s = .next t →
    i.form.takes s = false →
    t.pc = s.pc + BitVec.ofNat 16 (encode s.cfg.stopLength i).length ∧
      1 ≤ (encode s.cfg.stopLength i).length ∧ (encode s.cfg.stopLength i).length ≤ 3

/-- R288, R109, R289, R290: the default cost of every row is that of its class, a not-taken cost stands exactly at the conditional
transfers, and in machine cycles every default is a quarter. That an illegal opcode has no record is the model's reading of the
table (log entry 13), and that a table is the default with changes its choice (log entry 16). -/
def Obligations.DefaultCosts : Prop :=
  (∀ (sl : StopLength) (i : Instr), defaultCost (keyOfBytes (encode sl i)) = i.form.defaultCost) ∧
  (∀ i : Instr, i.wf = true → ∃ c, i.form.defaultCost = some c ∧ c.notTaken.isSome = i.form.isConditional) ∧
  (∀ op ∈ illegalOpcodes, defaultCost { space := .primary, opcode := op } = none) ∧
  (∀ k : Key, costOf (Config.inUnit .tState) k = defaultCost k) ∧
  (∀ k : Key, costOf (Config.inUnit .machineCycle) k =
    (defaultCost k).map fun c => { base := c.base / 4, notTaken := c.notTaken.map (· / 4) }) ∧
  (Config.inUnit .tState).idleCycles = 4 ∧ (Config.inUnit .tState).interruptCycles = 20 ∧
  (Config.inUnit .machineCycle).idleCycles = 1 ∧ (Config.inUnit .machineCycle).interruptCycles = 5

/-- R287: no effect of a step depends on the costs. Two machines that differ in the cost parameters and in the value last returned
only, the second with a record for every key, make the same step: their next states differ in those alone, and an error of the
first is the same error of the second, a MalformedOpcode too where the first lacks no record. That a cost table is the default
with changes is the model's choice (log entry 16), as are the fields `cfg` and `cycles` (log entries 2, 3). -/
def Obligations.CostsDoNotMatter : Prop :=
  ∀ (s : State) (u : CycleUnit) (changes : List CostRecord) (idle service m : Nat),
    let cfg : Config :=
      { s.cfg with cycleUnit := u, costChanges := changes, idleCycles := idle, interruptCycles := service }
    let s' : State := { s with cfg := cfg, cycles := m }
    cfg.costsComplete →
      (∀ t, step s = .next t → ∃ n, step s' = .next { t with cfg := cfg, cycles := n }) ∧
      (∀ a k info, step s = .fault (.memoryFault a k info) → step s' = .fault (.memoryFault a k info)) ∧
      (s.cfg.costsComplete →
        ∀ sp op pc, step s = .fault (.malformedOpcode sp op pc) → step s' = .fault (.malformedOpcode sp op pc))

/-- R110: a step of a halted or stopped core clears the marker, promotes a pending interrupt enable, changes nothing else and
returns `IDLE_CYCLES`, 4 by default. -/
def Obligations.IdleStepChangesOnlyIme : Prop :=
  (∀ s : State, s.halted = true ∨ s.stopped = true →
    step s = .next { s with taken := false, ime := s.ime || s.imePending, imePending := false,
                            cycles := s.cfg.idleCycles }) ∧
  Config.standard.idleCycles = 4

/-- R253, R101 and the source's property S9: after EI interrupts are still disabled, so the host's service is refused; after
one more instruction (NOP) they are enabled. -/
def Obligations.EnableInterruptLatency : Prop :=
  ∀ (s : State) (c c' : Cost),
    s.running = true → s.ime = false → s.imePending = false → s.fetchesAt s.pc [0xFB, 0x00] →
    costOf s.cfg { space := .primary, opcode := 0xFB } = some c →
    costOf s.cfg { space := .primary, opcode := 0x00 } = some c' →
    ∃ t u, step s = .next t ∧ t.ime = false ∧ t.imePending = true ∧
      (∀ v, service v t = .refused .interruptNotServiced) ∧
      step t = .next u ∧ u.ime = true ∧ u.imePending = false

/-- R262, R52: when an opcode or operand byte cannot be fetched, the step ends in MemoryFault at its address, with the
interface's own data. `bytes` are those already fetched: fewer than the instruction has. -/
def Obligations.FetchFaultStops : Prop :=
  ∀ (s : State) (bytes : List Byte) (e : DecodeError) (info : Nat),
    s.running = true → s.fetchesAt s.pc bytes → decode s.cfg.stopLength bytes = .error e →
    (∀ op l, bytes = op :: l → op ≠ 0xCB → (costOf s.cfg { space := .primary, opcode := op }).isSome = true) →
    s.cfg.faultInfo (s.pc + BitVec.ofNat 16 bytes.length) .fetch = some info →
    step s = .fault (.memoryFault (s.pc + BitVec.ofNat 16 bytes.length) .fetch info)

/-- R103, R261: a fetched key with no record in `CYCLE_TABLE` ends the step in MalformedOpcode, with the address of the first
opcode byte (R279). -/
def Obligations.MissingCycleRecordStops : Prop :=
  ∀ (s : State) (k : Key),
    s.running = true → (k.space = .primary → k.opcode ≠ 0xCB) → s.fetchesAt s.pc k.bytes → costOf s.cfg k = none →
    step s = .fault (.malformedOpcode k.space k.opcode s.pc)

/-- R84, R106, R261: the eleven illegal opcodes. The rows ILLEGAL_D3, ILLEGAL_DB, ILLEGAL_DD, ILLEGAL_E3, ILLEGAL_E4, ILLEGAL_EB,
ILLEGAL_EC, ILLEGAL_ED, ILLEGAL_F4, ILLEGAL_FC and ILLEGAL_FD stop on every path, and a step that fetches one of the bytes ends
in MalformedOpcode at its address, whether or not the cost table has a record for it. -/
def Obligations.IllegalOpcodesStop : Prop :=
  (∀ (i : Instr) (op : Byte) (s : State), i.form = .illegal op →
    op ∈ illegalOpcodes ∧ encode s.cfg.stopLength i = [op] ∧
      exec i s = .fault (.malformedOpcode .primary op (s.pc - 1#16))) ∧
  (∀ (s : State) (op : Byte), s.running = true → op ∈ illegalOpcodes → s.fetchesAt s.pc [op] →
    step s = .fault (.malformedOpcode .primary op s.pc))

/-- The headline of progress (R5, R107, R112): with a memory that refuses no access and a cost for every key, a running core
that does not stand on an illegal opcode answers a next state, whatever the registers and the memory hold. -/
def Obligations.StepAnswersUnlessIllegal : Prop :=
  ∀ s : State, s.cfg.faultless → s.cfg.costsComplete → s.running = true → s.peek s.pc ∉ illegalOpcodes →
    ∃ t, step s = .next t

/-- R260, R261, R262, R279: a step ends in a next state or in an error, and an error is MalformedOpcode, with the address the step
began at, or MemoryFault at an access the memory interface refuses. InvariantViolation is not reached from any state: R263 derives
it, and the model keeps the error and shows it unreachable (log entry 12). Nothing is refused. -/
def Obligations.StepStopsOnlyAsNamed : Prop :=
  ∀ s : State,
    (∃ t, step s = .next t) ∨
    (∃ sp op, step s = .fault (.malformedOpcode sp op s.pc) ∧
      ((sp = .primary ∧ op ∈ illegalOpcodes) ∨ costOf s.cfg { space := sp, opcode := op } = none)) ∨
    (∃ a k info, step s = .fault (.memoryFault a k info) ∧ s.cfg.faultInfo a k = some info)

/-! ### The accesses of an instruction -/

/-- R58, R59, R62, R262: an instruction of the table completes exactly when no data access of its list is refused, and
otherwise ends in MemoryFault at the first that is: for every instruction, for every state. -/
def Obligations.AccessesDecideOutcome : Prop :=
  ∀ (i : Instr) (s : State), i.wf = true →
    match s.cfg.firstFault (i.form.accesses s) with
    | none => ∃ t, exec i s = .next t
    | some f => exec i s = .fault f

/-- R59, R60: an instruction that completes has made exactly the data accesses of its list, in that order, as a device on any
of the addresses has seen them; no access is repeated, and a conditional transfer that fails makes none. -/
def Obligations.AccessesMadeInOrder : Prop :=
  ∀ (i : Instr) (s t : State), exec i s = .next t →
    t.io.map IoEvent.access =
      ((i.form.accesses s).filter fun x => s.cfg.isDevice x.2).reverse ++ s.io.map IoEvent.access

/-- R112: a step makes at most five memory accesses, counted where every address is a device's. -/
def Obligations.StepMakesAtMostFiveAccesses : Prop :=
  ∀ s t : State, step s = .next t → t.io.length ≤ s.io.length + 5

/-- R68, R285: a byte stored by an instruction of any storing form is the byte a fetch at its address gets in the state the step
leaves, and the very next step's first fetch gets it where PC stands on it, with nothing between them. -/
def Obligations.FetchSeesEarlierWrite : Prop :=
  ∀ (s t : State) (bytes : List Byte) (i : Instr),
    s.Inv → s.running = true → s.fetchesAt s.pc bytes → decode s.cfg.stopLength bytes = .ok (i, []) →
    step s = .next t →
    let s0 : State := { s with pc := s.pc + BitVec.ofNat 16 bytes.length }
    ∀ (a : Word) (v : Byte), (a, v) ∈ (i.form.storeAddrs s0).zip (i.form.storeBytes s0) →
      s.cfg.isDevice a = false → s.cfg.faultInfo a .fetch = none →
      memRead t a .fetch = .ok (v, t) ∧
        (t.pc = a → fetch8 (startStep t) = .ok (v, { startStep t with pc := a + 1#16 }))

/-- R52, R60: a byte read ends in MemoryFault where the interface refuses it; else it answers what plain memory holds, or at a
device's address the memory oracle's byte, with that read added to what the device has seen. -/
def Obligations.ByteReads : Prop :=
  ∀ (s : State) (a : Word) (k : Access), k ≠ .write →
    (∀ info, s.cfg.faultInfo a k = some info → memRead s a k = .error (.memoryFault a k info)) ∧
    (s.cfg.faultInfo a k = none → s.cfg.isDevice a = false → memRead s a k = .ok (s.mem.read a.toNat, s)) ∧
    (s.cfg.faultInfo a k = none → s.cfg.isDevice a = true →
      memRead s a k =
        .ok (Config.deviceByte s.io a, { s with io := .read a (Config.deviceByte s.io a) :: s.io }))

/-- R53: a byte write ends in MemoryFault where the interface refuses it; else plain memory holds the byte at that address and
every other address holds what it held, and at a device's address the device has been given it. -/
def Obligations.ByteWrites : Prop :=
  ∀ (s : State) (a : Word) (v : Byte), s.mem.wf = true →
    (∀ info, s.cfg.faultInfo a .write = some info → memWrite s a v = .error (.memoryFault a .write info)) ∧
    (s.cfg.faultInfo a .write = none → s.cfg.isDevice a = false →
      ∃ m, memWrite s a v = .ok { s with mem := m } ∧ m.wf = true ∧ m.read a.toNat = v ∧
        ∀ b : Word, b ≠ a → m.read b.toNat = s.mem.read b.toNat) ∧
    (s.cfg.faultInfo a .write = none → s.cfg.isDevice a = true →
      memWrite s a v = .ok { s with io := .write a v :: s.io })

/-- R54, R55, R56, R57: a word is two bytes, the low one at the address and the high one at the next, modulo 65536, with no
alignment. -/
def Obligations.WordAccesses : Prop :=
  ∀ (s : State) (a v : Word), s.mem.wf = true → s.ramAt a → s.ramAt (a + 1#16) →
    memRead16 s a =
      .ok (BitVec.ofNat 16 ((s.mem.read a.toNat).toNat + 256 * (s.mem.read ((a.toNat + 1) % 65536)).toNat), s) ∧
    ∃ m, memWrite16 s a v = .ok { s with mem := m } ∧ m.wf = true ∧
      (m.read a.toNat).toNat = v.toNat % 256 ∧ (m.read ((a.toNat + 1) % 65536)).toNat = v.toNat / 256 ∧
      ∀ b : Word, b ≠ a → b ≠ a + 1#16 → m.read b.toNat = s.mem.read b.toNat

/-! ### Invariants -/

/-- The invariant holds at reset, with either profile, in front of any canonical memory. -/
def Obligations.InvariantAtReset : Prop :=
  State.reset.Inv ∧
    ∀ (p : ResetProfile) (cfg : Config) (mem : Memory) (io : List IoEvent), mem.wf = true →
      (State.create p cfg mem io).Inv

/-- Every step from a state that meets the invariant gives one that meets it: memory stays canonical, and HALTED and STOPPED
are never both 1 (R254). -/
def Obligations.StepKeepsInvariant : Prop :=
  ∀ s t : State, s.Inv → step s = .next t → t.Inv

/-- R264, R254: whatever the host does between steps, wake, service, stores, resets, the invariant holds after it, and no
parameter changes. The canonical memory, the parameters in the state, the acts and a store that is never refused are the model's
(log entries 1, 2, 14, 17). -/
def Obligations.HostRunsKeepInvariant : Prop :=
  ∀ (xs : List HostAct) (s t : State), s.Inv → actAll xs s = .next t → t.Inv ∧ t.cfg = s.cfg

/-! ### Flags, pairs, and the host's operations -/

/-- R27, R28: the flag codec. -/
def Obligations.FlagCodec : Prop :=
  (∀ f : Flags, f.pack.toNat = 128 * f.z.toNat + 64 * f.n.toNat + 32 * f.h.toNat + 16 * f.c.toNat) ∧
  (∀ v : Byte, Flags.unpack v =
    { z := v.toNat.testBit 7, n := v.toNat.testBit 6, h := v.toNat.testBit 5, c := v.toNat.testBit 4 }) ∧
  (∀ v : Byte, (Flags.unpack v).pack = v &&& 0xF0) ∧
  ∀ f : Flags, Flags.unpack f.pack = f

/-- R23 (R73, R74): the accessors read and write the register or pair they name, each 8-bit register and SP its own field and
nothing else. R24, R25, R26: BC, DE, HL and AF as views: the high byte is the first register, a write splits the word, and writing
AF sets the accumulator and the four flags and discards the low nibble. -/
def Obligations.PairViews : Prop :=
  ∀ (s : State) (v : Byte) (w : Word),
    (s.getReg .b = s.b ∧ s.getReg .c = s.c ∧ s.getReg .d = s.d ∧ s.getReg .e = s.e ∧ s.getReg .h = s.h ∧
      s.getReg .l = s.l ∧ s.getReg .a = s.a) ∧
    (s.setReg .b v = { s with b := v } ∧ s.setReg .c v = { s with c := v } ∧ s.setReg .d v = { s with d := v } ∧
      s.setReg .e v = { s with e := v } ∧ s.setReg .h v = { s with h := v } ∧ s.setReg .l v = { s with l := v } ∧
      s.setReg .a v = { s with a := v }) ∧
    (s.getPair .bc = s.bc ∧ s.getPair .de = s.de ∧ s.getPair .hl = s.hl ∧ s.getPair .sp = s.sp ∧
      s.getStackPair .bc = s.bc ∧ s.getStackPair .de = s.de ∧ s.getStackPair .hl = s.hl ∧ s.getStackPair .af = s.af) ∧
    (s.setPair .bc w = s.setBC w ∧ s.setPair .de w = s.setDE w ∧ s.setPair .hl w = s.setHL w ∧
      s.setPair .sp w = { s with sp := w } ∧ s.setStackPair .bc w = s.setBC w ∧ s.setStackPair .de w = s.setDE w ∧
      s.setStackPair .hl w = s.setHL w ∧ s.setStackPair .af w = s.setAF w) ∧
    (s.bc.toNat = 256 * s.b.toNat + s.c.toNat ∧ s.de.toNat = 256 * s.d.toNat + s.e.toNat ∧
      s.hl.toNat = 256 * s.h.toNat + s.l.toNat ∧ s.af.toNat = 256 * s.a.toNat + s.flags.pack.toNat ∧
      s.af.toNat % 16 = 0) ∧
    s.setBC w = { s with b := BitVec.ofNat 8 (w.toNat / 256), c := BitVec.ofNat 8 (w.toNat % 256) } ∧
    s.setDE w = { s with d := BitVec.ofNat 8 (w.toNat / 256), e := BitVec.ofNat 8 (w.toNat % 256) } ∧
    s.setHL w = { s with h := BitVec.ofNat 8 (w.toNat / 256), l := BitVec.ofNat 8 (w.toNat % 256) } ∧
    s.setAF w =
      { s with a := BitVec.ofNat 8 (w.toNat / 256),
               flags := { z := w.toNat.testBit 7, n := w.toNat.testBit 6, h := w.toNat.testBit 5,
                          c := w.toNat.testBit 4 } }

/-- R265: the wake operation. -/
def Obligations.WakeOperation : Prop :=
  (∀ s : State, act .wake s = .next { s with halted := false, stopped := false }) ∧
    ∀ s : State, s.running = true → act .wake s = .next s

/-- R266, R269: interrupt service is refused, with nothing changed, unless IME = 1 and STOPPED = 0; accepted, it leaves the
halted state, clears IME and IME_PENDING, pushes PC, goes to the vector, returns `INTERRUPT_CYCLES` and saves or changes nothing
else; it ends in MemoryFault where a byte of the push is refused. -/
def Obligations.InterruptService : Prop :=
  (∀ (s : State) (vector : Word),
    (s.ime = false ∨ s.stopped = true →
      service vector s = .refused .interruptNotServiced ∧ actAll [.service vector] s = .next s) ∧
    (s.ime = true → s.stopped = false → s.pushOk →
      service vector s =
        .next { s.pushed s.pc with halted := false, ime := false, imePending := false, pc := vector,
                                   cycles := s.cfg.interruptCycles }) ∧
    (∀ f, s.ime = true → s.stopped = false →
      s.cfg.firstFault [(.write, s.sp - 2#16), (.write, s.sp - 2#16 + 1#16)] = some f → service vector s = .fault f)) ∧
  Config.standard.interruptCycles = 20

/-- R266, R245, R270: a service and the RETI that ends its handler resume the interrupted program with interrupts enabled: the state
is as it was but for the two bytes of memory below the stack, the wake from HALT, IME_PENDING, the marker TAKEN and the value
returned, which the model keeps in `cycles` (log entry 3). -/
def Obligations.ServiceThenRetiResumes : Prop :=
  ∀ (s : State) (vector : Word), s.Inv → s.ime = true → s.stopped = false → s.ramAt (s.sp - 2#16) →
    s.ramAt (s.sp - 2#16 + 1#16) →
    ∃ t, service vector s = .next t ∧ t.pc = vector ∧ t.ime = false ∧
      exec .reti t =
        .next { s with halted := false, imePending := false, mem := (s.pushed s.pc).mem, taken := true,
                       cycles := s.cfg.interruptCycles }

/-! ### What an instruction leaves alone -/

/-- R32, R254, R255: HALTED is set by HALT only and STOPPED by STOP only, and no instruction clears either; IME and IME_PENDING
change by EI, DI and RETI only, as the table of R255 says. -/
def Obligations.ControlBitsChangeOnlyWhereNamed : Prop :=
  ∀ (i : Instr) (s t : State), exec i s = .next t →
    t.halted = (s.halted || decide (i.form = .halt)) ∧ t.stopped = (s.stopped || decide (i.form = .stop)) ∧
    (i.form = .ei → t.ime = s.ime ∧ t.imePending = true) ∧
    (i.form = .di → t.ime = false ∧ t.imePending = false) ∧
    (i.form = .reti → t.ime = true ∧ t.imePending = false) ∧
    (i.form ≠ .ei → i.form ≠ .di → i.form ≠ .reti → t.ime = s.ime ∧ t.imePending = s.imePending)

/-- R29, the table: a flag an instruction does not name is unchanged, a forced flag has its value. -/
def Obligations.FlagsFollowTable : Prop :=
  ∀ (i : Instr) (s t : State), exec i s = .next t →
    i.form.flagCells.1.allows s.flags.z t.flags.z ∧ i.form.flagCells.2.1.allows s.flags.n t.flags.n ∧
      i.form.flagCells.2.2.1.allows s.flags.h t.flags.h ∧ i.form.flagCells.2.2.2.allows s.flags.c t.flags.c

/-- R29, the readers under the table: what an instruction does depends on no flag but those it is named a reader of. From two
states that differ in other flags only it does the same, and every flag it writes gets the same value. -/
def Obligations.FlagsReadOnlyWhereNamed : Prop :=
  ∀ (i : Instr) (s t : State) (fl : Flags), i.form.flagsRead.agreeOn s.flags fl → exec i s = .next t →
    ∃ fl', exec i { s with flags := fl } = .next { t with flags := fl' } ∧
      i.form.flagCells.1.settles t.flags.z fl'.z ∧ i.form.flagCells.2.1.settles t.flags.n fl'.n ∧
      i.form.flagCells.2.2.1.settles t.flags.h fl'.h ∧ i.form.flagCells.2.2.2.settles t.flags.c fl'.c

/-- R22, R30: an instruction changes no 8-bit register and no SP but those it is named to write; none changes a parameter. -/
def Obligations.RegistersChangeOnlyWhereNamed : Prop :=
  ∀ (i : Instr) (s t : State), exec i s = .next t →
    (∀ r, r ∉ i.form.regsWritten → t.getReg r = s.getReg r) ∧ (i.form.writesSP = false → t.sp = s.sp) ∧
      t.cfg = s.cfg

/-- R104, R105, R235: the branch-taken marker is set exactly by a transfer that is made, and an instruction that makes none
leaves PC alone. -/
def Obligations.OnlyTransfersMovePc : Prop :=
  ∀ (i : Instr) (s t : State), exec i s = .next t →
    t.taken = (s.taken || i.form.takes s) ∧ (i.form.takes s = false → t.pc = s.pc)

/-- R58, R59: every byte of memory outside the bytes an instruction stores, at the addresses its meaning computes, reads after
it as before it; an instruction that stores nothing changes none. That a store to a device changes no byte of memory is the
model's choice (log entry 5), as is the canonical form (log entry 1). -/
def Obligations.MemoryChangesOnlyWhereStored : Prop :=
  ∀ (i : Instr) (s t : State), s.mem.wf = true → exec i s = .next t →
    t.mem.wf = true ∧
    (∀ a : Word, a ∉ i.form.storeAddrs s ∨ s.cfg.isDevice a = true → t.mem.read a.toNat = s.mem.read a.toNat) ∧
    (i.form.storeAddrs s = [] → t.mem = s.mem)

/-! ### Properties of pairs of instructions -/

/-- R143 to R145: PUSH then POP, of any pairs, transfers the word and leaves SP and everything else as it was, but for the two
bytes below the stack; POP AF drops the low nibble. -/
def Obligations.PushPopTransfers : Prop :=
  ∀ (i j : Instr) (p q : StackPair) (s : State), i.form = .push p → j.form = .pop q → s.Inv →
    s.ramAt (s.sp - 2#16) → s.ramAt (s.sp - 2#16 + 1#16) →
    ∃ t, exec i s = .next t ∧ t.sp = s.sp - 2#16 ∧
      exec j t =
        .next (State.setStackPair { s with mem := (s.pushed (s.getStackPair p)).mem } q (s.getStackPair p))

/-- R241, R246, R243: CALL, or RST, and the RET that ends the routine come back to the instruction after the call, with SP and
everything else as it was, but for the two bytes below the stack and the marker TAKEN. -/
def Obligations.CallReturnResumes : Prop :=
  ∀ (i : Instr) (s : State) (target : Word),
    (i.form = .call target ∨ ∃ y : Fin 8, i.form = .rst y ∧ target = BitVec.ofNat 16 (8 * y.val)) → s.Inv →
    s.ramAt (s.sp - 2#16) → s.ramAt (s.sp - 2#16 + 1#16) →
    ∃ t, exec i s = .next t ∧ t.pc = target ∧ t.sp = s.sp - 2#16 ∧
      exec .ret t = .next { s with mem := (s.pushed s.pc).mem, taken := true }

/-- R204 and the source's property S7: DAA after ADD of two packed decimal bytes gives the packed decimal sum, with carry
exactly when the true sum exceeds 99; after SUB it gives the packed decimal difference modulo 100, with carry exactly when the
minuend is less. -/
def Obligations.DecimalAdjustCorrectsBcd : Prop :=
  ∀ (i j : Instr) (src : Src8) (s : State), srcOk src s → bcdValid s.a → bcdValid (srcValue src s) →
    (i.form = .alu .add src → j = .daa →
      ∃ t u, exec i s = .next t ∧ exec j t = .next u ∧ bcdValid u.a ∧
        bcdValue u.a = (bcdValue s.a + bcdValue (srcValue src s)) % 100 ∧
        u.flags.c = decide (bcdValue s.a + bcdValue (srcValue src s) > 99)) ∧
    (i.form = .alu .sub src → j = .daa →
      ∃ t u, exec i s = .next t ∧ exec j t = .next u ∧ bcdValid u.a ∧
        bcdValue u.a = (bcdValue s.a + 100 - bcdValue (srcValue src s)) % 100 ∧
        u.flags.c = decide (bcdValue s.a < bcdValue (srcValue src s)))

/-- R203 and 90_conflicts.md C9: RLA then RRA restores A and the carry; RLCA then RRCA restores A and leaves the old bit 7 in
the carry. -/
def Obligations.RotatePairsRestore : Prop :=
  ∀ s : State,
    (∃ t, exec .rla s = .next t ∧
      exec .rra t = .next { s with flags := { z := false, n := false, h := false, c := s.flags.c } }) ∧
    (∃ t, exec .rlca s = .next t ∧
      exec .rrca t = .next { s with flags := { z := false, n := false, h := false, c := s.a.toNat.testBit 7 } })

/-! ### 8-bit transfers (41_load8.md) -/

/-- R121 to R125: LD r,r', LD r,d8, LD r,(HL), LD (HL),r, LD (HL),d8, the 63 rows of these forms. The address is HL as it was,
also where H or L is the destination or the value stored. -/
def Obligations.Load8Registers : Prop :=
  (∀ (i : Instr) (dst src : Reg8) (s : State), i.form = .ldRegReg dst src →
    exec i s = .next (s.setReg dst (s.getReg src))) ∧
  (∀ (i : Instr) (dst : Reg8) (v : Byte) (s : State), i.form = .ldRegImm dst v → exec i s = .next (s.setReg dst v)) ∧
  (∀ (i : Instr) (dst : Reg8) (s : State), i.form = .ldRegInd dst → s.cfg.faultInfo s.hl .read = none →
    exec i s = .next ((s.afterRead s.hl).setReg dst (s.peek s.hl))) ∧
  (∀ (i : Instr) (src : Reg8) (s : State), i.form = .ldIndReg src → s.cfg.faultInfo s.hl .write = none →
    exec i s = .next (s.poke s.hl (s.getReg src))) ∧
  (∀ (i : Instr) (v : Byte) (s : State), i.form = .ldIndImm v → s.cfg.faultInfo s.hl .write = none →
    exec i s = .next (s.poke s.hl v))

/-- R126 to R133: LD A,(BC), LD A,(DE), LD A,(HL+), LD A,(HL-), LD (BC),A, LD (DE),A, LD (HL+),A, LD (HL-),A. HL moves by one,
modulo 65536, after the access. -/
def Obligations.Load8ThroughPairs : Prop :=
  ∀ (i : Instr) (p : Ptr) (s : State),
    let addr : Word := match p with
      | .bc => s.bc
      | .de => s.de
      | .hlInc | .hlDec => s.hl
    let moved : State → State := fun t => match p with
      | .bc | .de => t
      | .hlInc => t.setHL (BitVec.ofNat 16 (s.hl.toNat + 1))
      | .hlDec => t.setHL (BitVec.ofNat 16 (s.hl.toNat + 65535))
    (i.form = .ldAPtr p → s.cfg.faultInfo addr .read = none →
      exec i s = .next (moved { s.afterRead addr with a := s.peek addr })) ∧
    (i.form = .ldPtrA p → s.cfg.faultInfo addr .write = none → exec i s = .next (moved (s.poke addr s.a)))

/-- R134 to R139: LD (a16),A, LD A,(a16), LDH (a8),A, LDH A,(a8), LD (C),A, LD A,(C). -/
def Obligations.Load8AbsoluteAndHighPage : Prop :=
  ∀ (s : State) (w : Word) (n : Byte),
    let page : Word := BitVec.ofNat 16 (0xFF00 + n.toNat)
    let pageC : Word := BitVec.ofNat 16 (0xFF00 + s.c.toNat)
    (s.cfg.faultInfo w .write = none → exec (.ldAtAbsA w) s = .next (s.poke w s.a)) ∧
    (s.cfg.faultInfo w .read = none → exec (.ldAAtAbs w) s = .next { s.afterRead w with a := s.peek w }) ∧
    (s.cfg.faultInfo page .write = none → exec (.ldhAtPageA n) s = .next (s.poke page s.a)) ∧
    (s.cfg.faultInfo page .read = none →
      exec (.ldhAAtPage n) s = .next { s.afterRead page with a := s.peek page }) ∧
    (s.cfg.faultInfo pageC .write = none → exec .ldAtCA s = .next (s.poke pageC s.a)) ∧
    (s.cfg.faultInfo pageC .read = none → exec .ldAAtC s = .next { s.afterRead pageC with a := s.peek pageC })

/-! ### 16-bit transfers (42_load16.md) -/

/-- R140, R141, R142: LD rr,d16 for BC, DE, HL and SP, LD (a16),SP, LD SP,HL. -/
def Obligations.Load16 : Prop :=
  ∀ (s : State) (w : Word),
    exec (.ldBCImm w) s = .next { s with b := BitVec.ofNat 8 (w.toNat / 256), c := BitVec.ofNat 8 (w.toNat % 256) } ∧
    exec (.ldDEImm w) s = .next { s with d := BitVec.ofNat 8 (w.toNat / 256), e := BitVec.ofNat 8 (w.toNat % 256) } ∧
    exec (.ldHLImm w) s = .next { s with h := BitVec.ofNat 8 (w.toNat / 256), l := BitVec.ofNat 8 (w.toNat % 256) } ∧
    exec (.ldSPImm w) s = .next { s with sp := w } ∧
    exec .ldSPHL s = .next { s with sp := BitVec.ofNat 16 (256 * s.h.toNat + s.l.toNat) } ∧
    (s.cfg.faultInfo w .write = none → s.cfg.faultInfo (w + 1#16) .write = none →
      exec (.ldAtAbsSP w) s =
        .next ((s.poke w (BitVec.ofNat 8 (s.sp.toNat % 256))).poke (w + 1#16) (BitVec.ofNat 8 (s.sp.toNat / 256))))

/-- R143, R144, R145: PUSH and POP of BC, DE, HL and AF. -/
def Obligations.PushAndPop : Prop :=
  ∀ (i : Instr) (p : StackPair) (s : State),
    (i.form = .push p → s.pushOk →
      exec i s = .next (s.pushed (match p with
        | .bc => s.bc
        | .de => s.de
        | .hl => s.hl
        | .af => s.af))) ∧
    (i.form = .pop p → s.popOk →
      exec i s = .next (match p with
        | .bc => s.popped.setBC s.poppedWord
        | .de => s.popped.setDE s.poppedWord
        | .hl => s.popped.setHL s.poppedWord
        | .af => s.popped.setAF s.poppedWord))

/-- R190, R146, R194: LD HL,SP+e8 and ADD SP,e8 add the signed displacement; Z and N are 0, H and C are the carries of the
unsigned low-byte sum. -/
def Obligations.StackPointerOffset : Prop :=
  ∀ (s : State) (e : Byte),
    let r : Word := BitVec.ofInt 16 ((s.sp.toNat : Int) + e.toInt)
    let fl : Flags :=
      { z := false, n := false, h := decide (s.sp.toNat % 16 + e.toNat % 16 > 15),
        c := decide (s.sp.toNat % 256 + e.toNat > 255) }
    exec (.addSPOff e) s = .next { s with sp := r, flags := fl } ∧
      exec (.ldHLSPOff e) s = .next { s.setHL r with flags := fl }

/-! ### 8-bit arithmetic and logic (43_alu8.md) -/

/-- R151, R160 to R165: ADD and ADC with a register, the byte at HL or an immediate. -/
def Obligations.AddWithCarry : Prop :=
  ∀ (i : Instr) (op : AluOp) (src : Src8) (s : State), i.form = .alu op src → op = .add ∨ op = .adc → srcOk src s →
    let sum := s.a.toNat + (srcValue src s).toNat + (if op = .adc ∧ s.flags.c = true then 1 else 0)
    let low := s.a.toNat % 16 + (srcValue src s).toNat % 16 + (if op = .adc ∧ s.flags.c = true then 1 else 0)
    exec i s =
      .next { srcAfter src s with
        a := BitVec.ofNat 8 sum,
        flags := { z := decide (sum % 256 = 0), n := false, h := decide (low > 15), c := decide (sum > 255) } }

/-- R152, R166 to R171, R181 to R183: SUB, SBC and CP with a register, the byte at HL or an immediate; CP keeps A. -/
def Obligations.SubtractAndCompare : Prop :=
  ∀ (i : Instr) (op : AluOp) (src : Src8) (s : State), i.form = .alu op src → op = .sub ∨ op = .sbc ∨ op = .cp →
    srcOk src s →
    let borrow := if op = .sbc ∧ s.flags.c = true then 1 else 0
    let b := (srcValue src s).toNat
    let r : Byte := BitVec.ofNat 8 (s.a.toNat + 512 - (b + borrow))
    exec i s =
      .next { srcAfter src s with
        a := if op = .cp then s.a else r,
        flags := { z := decide (r = 0), n := true, h := decide (s.a.toNat % 16 < b % 16 + borrow),
                   c := decide (s.a.toNat < b + borrow) } }

/-- R153, R154, R155, R172 to R180: AND, OR and XOR with a register, the byte at HL or an immediate, three distinct functions
(90_conflicts.md C5). -/
def Obligations.BitwiseLogic : Prop :=
  ∀ (i : Instr) (op : AluOp) (src : Src8) (s : State), i.form = .alu op src → op = .and ∨ op = .or ∨ op = .xor →
    srcOk src s →
    ∃ r : Byte,
      (∀ k : Nat, k < 8 → r.getLsbD k =
        (match op with
          | .and => s.a.getLsbD k && (srcValue src s).getLsbD k
          | .or => s.a.getLsbD k || (srcValue src s).getLsbD k
          | _ => s.a.getLsbD k != (srcValue src s).getLsbD k)) ∧
      exec i s =
        .next { srcAfter src s with
          a := r, flags := { z := decide (r = 0), n := false, h := decide (op = .and), c := false } }

/-- R156, R157, R184 to R187: INC and DEC of a register or the byte at HL; the carry is unchanged. -/
def Obligations.IncrementDecrement8 : Prop :=
  ∀ (i : Instr) (x : Loc8) (s : State), locOk x s →
    (i.form = .inc8 x →
      exec i s =
        .next { locStored x s (locValue x s + 1#8) with
          flags := { z := decide (locValue x s = 0xFF), n := false, h := decide ((locValue x s).toNat % 16 = 15),
                     c := s.flags.c } }) ∧
    (i.form = .dec8 x →
      exec i s =
        .next { locStored x s (locValue x s - 1#8) with
          flags := { z := decide (locValue x s = 0x01), n := true, h := decide ((locValue x s).toNat % 16 = 0),
                     c := s.flags.c } })

/-! ### 16-bit arithmetic (44_alu16.md) -/

/-- R191, R192, R193: ADD HL,rr, INC rr and DEC rr for BC, DE, HL and SP, modulo 65536. -/
def Obligations.Arithmetic16 : Prop :=
  ∀ (i : Instr) (p : Pair) (s : State),
    let rr : Word := match p with
      | .bc => s.bc
      | .de => s.de
      | .hl => s.hl
      | .sp => s.sp
    (i.form = .addHL p →
      exec i s =
        .next { s.setHL (BitVec.ofNat 16 (s.hl.toNat + rr.toNat)) with
          flags := { z := s.flags.z, n := false, h := decide (s.hl.toNat % 4096 + rr.toNat % 4096 > 4095),
                     c := decide (s.hl.toNat + rr.toNat > 65535) } }) ∧
    (i.form = .inc16 p → exec i s = .next (s.setPair p (BitVec.ofNat 16 (rr.toNat + 1)))) ∧
    (i.form = .dec16 p → exec i s = .next (s.setPair p (BitVec.ofNat 16 (rr.toNat + 65535))))

/-! ### Rotates, decimal adjust, flag operations (45_rotate_misc.md) -/

/-- R200 to R203: RLCA, RRCA, RLA and RRA; Z, N and H are 0 whatever the result. -/
def Obligations.AccumulatorRotates : Prop :=
  ∀ s : State,
    let fl : Bool → Flags := fun c => { z := false, n := false, h := false, c := c }
    exec .rlca s = .next { s with a := s.a.rotateLeft 1, flags := fl (s.a.toNat.testBit 7) } ∧
    exec .rrca s = .next { s with a := s.a.rotateRight 1, flags := fl (s.a.toNat.testBit 0) } ∧
    exec .rla s =
      .next { s with a := BitVec.ofNat 8 (2 * s.a.toNat + s.flags.c.toNat), flags := fl (s.a.toNat.testBit 7) } ∧
    exec .rra s =
      .next { s with a := BitVec.ofNat 8 (s.a.toNat / 2 + 128 * s.flags.c.toNat), flags := fl (s.a.toNat.testBit 0) }

/-- R204 to R208: DAA, with both tests made on A before the correction, CPL, SCF, CCF and NOP. -/
def Obligations.AdjustAndFlagOperations : Prop :=
  ∀ s : State,
    let low : Bool := s.flags.h || (!s.flags.n && decide (s.a.toNat % 16 > 9))
    let high : Bool := s.flags.c || (!s.flags.n && decide (s.a.toNat > 0x99))
    let u : Nat := 6 * low.toNat + 96 * high.toNat
    let r : Byte := BitVec.ofNat 8 (if s.flags.n then s.a.toNat + 256 - u else s.a.toNat + u)
    exec .daa s =
      .next { s with a := r, flags := { z := decide (r = 0), n := s.flags.n, h := false, c := high } } ∧
    exec .cpl s =
      .next { s with a := BitVec.ofNat 8 (255 - s.a.toNat),
                     flags := { z := s.flags.z, n := true, h := true, c := s.flags.c } } ∧
    exec .scf s = .next { s with flags := { z := s.flags.z, n := false, h := false, c := true } } ∧
    exec .ccf s = .next { s with flags := { z := s.flags.z, n := false, h := false, c := !s.flags.c } } ∧
    exec .nop s = .next s

/-! ### The secondary space (46_cb_shift_bit.md) -/

/-- R210 to R226: RLC, RRC, RL, RR, SLA, SRA, SWAP and SRL of a register or the byte at HL, read once and written once. -/
def Obligations.ShiftsAndRotates : Prop :=
  ∀ (i : Instr) (op : ShiftOp) (x : Loc8) (s : State), i.form = .shift op x → locOk x s →
    let v := locValue x s
    let r : Byte := match op with
      | .rlc => v.rotateLeft 1
      | .rrc => v.rotateRight 1
      | .rl => BitVec.ofNat 8 (2 * v.toNat + s.flags.c.toNat)
      | .rr => BitVec.ofNat 8 (v.toNat / 2 + 128 * s.flags.c.toNat)
      | .sla => BitVec.ofNat 8 (2 * v.toNat)
      | .sra => v.sshiftRight 1
      | .swap => v.rotateLeft 4
      | .srl => BitVec.ofNat 8 (v.toNat / 2)
    let out : Bool := match op with
      | .rlc | .rl | .sla => v.toNat.testBit 7
      | .rrc | .rr | .sra | .srl => v.toNat.testBit 0
      | .swap => false
    exec i s =
      .next { locStored x s r with flags := { z := decide (r = 0), n := false, h := false, c := out } }

/-- R227 to R232: BIT, RES and SET of each bit of a register or the byte at HL. BIT writes nothing but Z, N and H; RES and SET
write no flag, and every other bit stays. -/
def Obligations.BitTestResetSet : Prop :=
  ∀ (i : Instr) (b : Fin 8) (x : Loc8) (s : State),
    (i.form = .bit b x → locReadOk x s →
      exec i s =
        .next { locAfter x s with
          flags := { z := !(locValue x s).toNat.testBit b.val, n := false, h := true, c := s.flags.c } }) ∧
    (i.form = .res b x → locOk x s →
      ∃ r : Byte, exec i s = .next (locStored x s r) ∧
        ∀ k : Nat, k < 8 → r.getLsbD k = if k = b.val then false else (locValue x s).getLsbD k) ∧
    (i.form = .set b x → locOk x s →
      ∃ r : Byte, exec i s = .next (locStored x s r) ∧
        ∀ k : Nat, k < 8 → r.getLsbD k = if k = b.val then true else (locValue x s).getLsbD k)

/-! ### Control transfer (47_control.md) -/

/-- R235 to R240: JP a16, JP cc,a16, JP HL, JR e8 and JR cc,e8. A conditional jump whose condition fails does nothing. -/
def Obligations.Jumps : Prop :=
  ∀ (i : Instr) (cc : Cond) (w : Word) (e : Byte) (s : State),
    let holds : Bool := match cc with
      | .nz => !s.flags.z
      | .z => s.flags.z
      | .nc => !s.flags.c
      | .c => s.flags.c
    let near : Word := BitVec.ofInt 16 ((s.pc.toNat : Int) + e.toInt)
    (i.form = .jp w → exec i s = .next { s with pc := w, taken := true }) ∧
    (i.form = .jpCC cc w → exec i s = .next (if holds then { s with pc := w, taken := true } else s)) ∧
    (i.form = .jpHL → exec i s = .next { s with pc := s.hl, taken := true }) ∧
    (i.form = .jr e → exec i s = .next { s with pc := near, taken := true }) ∧
    (i.form = .jrCC cc e → exec i s = .next (if holds then { s with pc := near, taken := true } else s))

/-- R241 to R246: CALL a16, CALL cc,a16, RST, RET, RET cc and RETI. On entry PC is the address of the next instruction, the
value pushed. A conditional form whose condition fails makes no stack access and does nothing. -/
def Obligations.CallsAndReturns : Prop :=
  ∀ (i : Instr) (cc : Cond) (w : Word) (y : Fin 8) (s : State),
    let holds : Bool := match cc with
      | .nz => !s.flags.z
      | .z => s.flags.z
      | .nc => !s.flags.c
      | .c => s.flags.c
    (i.form = .call w → s.pushOk → exec i s = .next { s.pushed s.pc with pc := w, taken := true }) ∧
    (i.form = .callCC cc w → holds = true → s.pushOk →
      exec i s = .next { s.pushed s.pc with pc := w, taken := true }) ∧
    (i.form = .callCC cc w → holds = false → exec i s = .next s) ∧
    (i.form = .rst y → s.pushOk →
      exec i s = .next { s.pushed s.pc with pc := BitVec.ofNat 16 (8 * y.val), taken := true }) ∧
    (i.form = .ret → s.popOk → exec i s = .next { s.popped with pc := s.poppedWord, taken := true }) ∧
    (i.form = .retCC cc → holds = true → s.popOk →
      exec i s = .next { s.popped with pc := s.poppedWord, taken := true }) ∧
    (i.form = .retCC cc → holds = false → exec i s = .next s) ∧
    (i.form = .reti → s.popOk →
      exec i s = .next { s.popped with pc := s.poppedWord, taken := true, ime := true, imePending := false })

/-! ### Power and interrupt enable (48_system.md) -/

/-- R250 to R253: HALT, STOP, DI and EI. -/
def Obligations.PowerAndInterruptEnable : Prop :=
  ∀ s : State,
    exec .halt s = .next { s with halted := true } ∧
    exec .stop s = .next { s with stopped := true } ∧
    exec .di s = .next { s with ime := false, imePending := false } ∧
    exec .ei s = .next { s with imePending := true }
end

