-- ==== Sys2Proof/Laws/Bits.lean ====
section
/-! SUPPORT. The bit-field helpers as arithmetic on numbers (00_scope.md R11, R12). -/

namespace Sys2Proof

theorem loByte_eq_ofNat (w : Word) : loByte w = BitVec.ofNat 8 (w.toNat % 256) := by
  apply BitVec.eq_of_toNat_eq; simp [loByte]

theorem hiByte_eq_ofNat (w : Word) : hiByte w = BitVec.ofNat 8 (w.toNat / 256) := by
  apply BitVec.eq_of_toNat_eq; simp [hiByte, Nat.shiftRight_eq_div_pow]

@[simp] theorem toNat_mkWord (h l : Byte) : (mkWord h l).toNat = 256 * h.toNat + l.toNat := by
  simp only [mkWord, BitVec.toNat_or, BitVec.toNat_shiftLeft, BitVec.toNat_setWidth]
  have h1 := h.isLt
  have h2 := l.isLt
  rw [Nat.mod_eq_of_lt (by omega : h.toNat < 2 ^ 16), Nat.mod_eq_of_lt (by omega : l.toNat < 2 ^ 16),
    Nat.mod_eq_of_lt (by rw [Nat.shiftLeft_eq]; omega), ← Nat.shiftLeft_add_eq_or_of_lt (by omega : l.toNat < 2 ^ 8),
    Nat.shiftLeft_eq]
  omega

theorem mkWord_eq_ofNat (h l : Byte) : mkWord h l = BitVec.ofNat 16 (256 * h.toNat + l.toNat) := by
  apply BitVec.eq_of_toNat_eq
  have h1 := h.isLt
  have h2 := l.isLt
  simp
  omega

theorem highPage_eq_ofNat (n : Byte) : highPage n = BitVec.ofNat 16 (0xFF00 + n.toNat) := by
  unfold highPage zext16; apply BitVec.eq_of_toNat_eq; simp

theorem add_one_eq_ofNat (w : Word) : w + 1#16 = BitVec.ofNat 16 (w.toNat + 1) := by
  apply BitVec.eq_of_toNat_eq; simp

theorem sub_one_eq_ofNat (w : Word) : w - 1#16 = BitVec.ofNat 16 (w.toNat + 65535) := by
  apply BitVec.eq_of_toNat_eq; simp [BitVec.toNat_sub]; omega

/-- A signed displacement added to a word (R11, R12). -/
theorem add_sext16 (w : Word) (e : Byte) : w + sext16 e = BitVec.ofInt 16 ((w.toNat : Int) + e.toInt) := by
  apply BitVec.eq_of_toInt_eq
  have : (BitVec.toInt e).bmod 256 = BitVec.toInt e := by
    have h1 := @BitVec.le_toInt 8 e
    have h2 := @BitVec.toInt_lt 8 e
    simp at h1 h2
    rw [Int.bmod_def]; split <;> omega
  simp [sext16, BitVec.toInt_add, BitVec.toInt_signExtend, this]
  rw [BitVec.toInt_eq_toNat_bmod]; simp

/-- The two addresses of a word differ (R57). -/
theorem add_one_ne (w : Word) : w + 1#16 ≠ w := by
  intro h
  have := congrArg BitVec.toNat h
  simp at this
  omega

/-- The accumulator and the number form of a byte subtraction (R152). -/
theorem ofInt_sub_eq_ofNat (a b n : Nat) (h : b + n ≤ 512) :
    BitVec.ofInt 8 ((a : Int) - b - n) = BitVec.ofNat 8 (a + 512 - (b + n)) := by
  apply BitVec.eq_of_toNat_eq
  simp only [BitVec.toNat_ofInt, BitVec.toNat_ofNat]
  omega

end Sys2Proof
end

