-- ==== Sys2Proof/Laws/Memory.lean ====
section
/-! SUPPORT. Memory as data: a read after a write, and the canonical form (20_memory.md R53, R65). -/

namespace Sys2Proof.Machine

/-- Every address listed by a memory canonical from `lo` on is at least `lo`, so lower addresses read as blank. -/
theorem Memory.read_below {m : Memory} : ∀ {lo a : Nat}, Memory.wfFrom lo m = true → a < lo → m.read a = Memory.blank := by
  induction m with
  | nil => intros; rfl
  | cons c m ih =>
    obtain ⟨k, v⟩ := c
    intro lo a h ha
    simp only [Memory.wfFrom, Bool.and_eq_true, decide_eq_true_eq] at h
    have hk : a ≠ k := by omega
    simp only [Memory.read, hk, if_false]
    exact ih h.2 (by omega)

/-- A memory canonical from an address on is canonical from any lower one. -/
theorem Memory.wfFrom_mono {m : Memory} {lo lo' : Nat} (h : Memory.wfFrom lo m = true) (hl : lo' ≤ lo) :
    Memory.wfFrom lo' m = true := by
  cases m with
  | nil => rfl
  | cons c m =>
    obtain ⟨k, v⟩ := c
    simp only [Memory.wfFrom, Bool.and_eq_true, decide_eq_true_eq] at h ⊢
    exact ⟨⟨⟨by omega, h.1.1.2⟩, h.1.2⟩, h.2⟩

/-- A write inside the address space keeps the canonical form. -/
theorem Memory.write_wfFrom {m : Memory} (v : Byte) : ∀ {lo a : Nat}, Memory.wfFrom lo m = true → lo ≤ a →
    a < 65536 → Memory.wfFrom lo (m.write a v) = true := by
  induction m with
  | nil =>
    intro lo a _ hl ha
    simp only [Memory.write]
    split
    · rfl
    · rename_i hv; simp [Memory.wfFrom, hl, ha, hv]
  | cons c m ih =>
    obtain ⟨k, w⟩ := c
    intro lo a h hl ha
    have h0 := h
    simp only [Memory.wfFrom, Bool.and_eq_true, decide_eq_true_eq] at h
    simp only [Memory.write]
    split
    · rename_i hak
      split
      · exact h0
      · rename_i hv
        simp only [Memory.wfFrom, Bool.and_eq_true, decide_eq_true_eq]
        exact ⟨⟨⟨hl, ha⟩, hv⟩, ⟨⟨by omega, h.1.1.2⟩, h.1.2⟩, h.2⟩
    · rename_i hak
      split
      · rename_i hk
        subst hk
        split
        · exact Memory.wfFrom_mono h.2 (by omega)
        · rename_i hv
          simp only [Memory.wfFrom, Bool.and_eq_true, decide_eq_true_eq]
          exact ⟨⟨⟨hl, ha⟩, hv⟩, h.2⟩
      · rename_i hk
        simp only [Memory.wfFrom, Bool.and_eq_true, decide_eq_true_eq]
        exact ⟨h.1, ih h.2 (by omega) ha⟩

/-- Every write the machine makes keeps the canonical form. -/
theorem Memory.write_wf {m : Memory} (h : m.wf = true) (a : Word) (v : Byte) : (m.write a.toNat v).wf = true :=
  Memory.write_wfFrom v h (Nat.zero_le _) a.isLt

/-- A read of the address written gets the byte written (R53). -/
theorem Memory.read_write_same {m : Memory} (a : Nat) (v : Byte) :
    ∀ {lo : Nat}, Memory.wfFrom lo m = true → (m.write a v).read a = v := by
  induction m with
  | nil =>
    intro lo _
    simp only [Memory.write]
    split
    · rename_i hv; simp [Memory.read, hv]
    · simp [Memory.read]
  | cons c m ih =>
    obtain ⟨k, w⟩ := c
    intro lo h
    have h0 := h
    simp only [Memory.wfFrom, Bool.and_eq_true, decide_eq_true_eq] at h
    simp only [Memory.write]
    split
    · rename_i hak
      split
      · rename_i hv
        have hk : a ≠ k := by omega
        simp only [Memory.read, hk, if_false]
        rw [hv]; exact Memory.read_below h.2 (by omega)
      · simp [Memory.read]
    · rename_i hak
      split
      · rename_i hk
        subst hk
        split
        · rename_i hv; rw [hv]; exact Memory.read_below h.2 (by omega)
        · simp [Memory.read]
      · rename_i hk
        simp only [Memory.read, hk, if_false]
        exact ih h.2

/-- A write leaves every other address alone. -/
theorem Memory.read_write_other {m : Memory} {a b : Nat} (v : Byte) (hab : b ≠ a) :
    ∀ {lo : Nat}, Memory.wfFrom lo m = true → (m.write a v).read b = m.read b := by
  induction m with
  | nil =>
    intro lo _
    simp only [Memory.write]
    split
    · rfl
    · simp [Memory.read, hab]
  | cons c m ih =>
    obtain ⟨k, w⟩ := c
    intro lo h
    simp only [Memory.wfFrom, Bool.and_eq_true, decide_eq_true_eq] at h
    simp only [Memory.write]
    split
    · split
      · rfl
      · simp [Memory.read, hab]
    · split
      · rename_i hk
        subst hk
        split
        · simp [Memory.read, hab]
        · simp [Memory.read, hab]
      · simp only [Memory.read]
        split
        · rfl
        · exact ih h.2

/-- Equal memories are equal data: two canonical memories that read alike are the same list. -/
theorem Memory.ext_read {m : Memory} : ∀ {m' : Memory} {lo : Nat}, Memory.wfFrom lo m = true →
    Memory.wfFrom lo m' = true → (∀ a, m.read a = m'.read a) → m = m' := by
  induction m with
  | nil =>
    intro m' lo _ h' hr
    cases m' with
    | nil => rfl
    | cons c m' =>
      obtain ⟨k, v⟩ := c
      simp only [Memory.wfFrom, Bool.and_eq_true, decide_eq_true_eq] at h'
      have := hr k
      simp only [Memory.read, if_true] at this
      exact absurd this.symm h'.1.2
  | cons c m ih =>
    obtain ⟨k, v⟩ := c
    intro m' lo h h' hr
    cases m' with
    | nil =>
      simp only [Memory.wfFrom, Bool.and_eq_true, decide_eq_true_eq] at h
      have := hr k
      simp only [Memory.read, if_true] at this
      exact absurd this h.1.2
    | cons c' m' =>
      obtain ⟨k', v'⟩ := c'
      have h0 := h
      have h0' := h'
      simp only [Memory.wfFrom, Bool.and_eq_true, decide_eq_true_eq] at h h'
      have hk : k = k' := by
        rcases Nat.lt_trichotomy k k' with hlt | heq | hgt
        · have := hr k
          have hb : Memory.read ((k', v') :: m') k = Memory.blank := by
            have : k ≠ k' := by omega
            simp only [Memory.read, this, if_false]
            exact Memory.read_below h'.2 (by omega)
          rw [hb] at this
          simp only [Memory.read, if_true] at this
          exact absurd this h.1.2
        · exact heq
        · have := hr k'
          have hb : Memory.read ((k, v) :: m) k' = Memory.blank := by
            have : k' ≠ k := by omega
            simp only [Memory.read, this, if_false]
            exact Memory.read_below h.2 (by omega)
          rw [hb] at this
          simp only [Memory.read, if_true] at this
          exact absurd this.symm h'.1.2
      subst hk
      have hv := hr k
      simp only [Memory.read, if_true] at hv
      subst hv
      congr 1
      refine ih h.2 h'.2 fun a => ?_
      have := hr a
      by_cases hak : a = k
      · subst hak
        rw [Memory.read_below h.2 (by omega), Memory.read_below h'.2 (by omega)]
      · simpa only [Memory.read, hak, if_false] using this

end Sys2Proof.Machine
end

