-- ==== Sys2Proof/Laws/State.lean ====
section
/-! SUPPORT. What each update of the state leaves alone, one lemma per field per update, and what it sets. -/

namespace Sys2Proof.Machine

@[simp] theorem State.setReg_flags (s : State) (r : Reg8) (v : Byte) : (s.setReg r v).flags = s.flags := by cases r <;> rfl
@[simp] theorem State.setReg_sp (s : State) (r : Reg8) (v : Byte) : (s.setReg r v).sp = s.sp := by cases r <;> rfl
@[simp] theorem State.setReg_pc (s : State) (r : Reg8) (v : Byte) : (s.setReg r v).pc = s.pc := by cases r <;> rfl
@[simp] theorem State.setReg_ime (s : State) (r : Reg8) (v : Byte) : (s.setReg r v).ime = s.ime := by cases r <;> rfl
@[simp] theorem State.setReg_imePending (s : State) (r : Reg8) (v : Byte) : (s.setReg r v).imePending = s.imePending := by cases r <;> rfl
@[simp] theorem State.setReg_halted (s : State) (r : Reg8) (v : Byte) : (s.setReg r v).halted = s.halted := by cases r <;> rfl
@[simp] theorem State.setReg_stopped (s : State) (r : Reg8) (v : Byte) : (s.setReg r v).stopped = s.stopped := by cases r <;> rfl
@[simp] theorem State.setReg_mem (s : State) (r : Reg8) (v : Byte) : (s.setReg r v).mem = s.mem := by cases r <;> rfl
@[simp] theorem State.setReg_taken (s : State) (r : Reg8) (v : Byte) : (s.setReg r v).taken = s.taken := by cases r <;> rfl
@[simp] theorem State.setReg_cycles (s : State) (r : Reg8) (v : Byte) : (s.setReg r v).cycles = s.cycles := by cases r <;> rfl
@[simp] theorem State.setReg_io (s : State) (r : Reg8) (v : Byte) : (s.setReg r v).io = s.io := by cases r <;> rfl
@[simp] theorem State.setReg_cfg (s : State) (r : Reg8) (v : Byte) : (s.setReg r v).cfg = s.cfg := by cases r <;> rfl

@[simp] theorem State.setBC_a (s : State) (w : Word) : (s.setBC w).a = s.a := rfl
@[simp] theorem State.setBC_d (s : State) (w : Word) : (s.setBC w).d = s.d := rfl
@[simp] theorem State.setBC_e (s : State) (w : Word) : (s.setBC w).e = s.e := rfl
@[simp] theorem State.setBC_h (s : State) (w : Word) : (s.setBC w).h = s.h := rfl
@[simp] theorem State.setBC_l (s : State) (w : Word) : (s.setBC w).l = s.l := rfl
@[simp] theorem State.setBC_flags (s : State) (w : Word) : (s.setBC w).flags = s.flags := rfl
@[simp] theorem State.setBC_sp (s : State) (w : Word) : (s.setBC w).sp = s.sp := rfl
@[simp] theorem State.setBC_pc (s : State) (w : Word) : (s.setBC w).pc = s.pc := rfl
@[simp] theorem State.setBC_ime (s : State) (w : Word) : (s.setBC w).ime = s.ime := rfl
@[simp] theorem State.setBC_imePending (s : State) (w : Word) : (s.setBC w).imePending = s.imePending := rfl
@[simp] theorem State.setBC_halted (s : State) (w : Word) : (s.setBC w).halted = s.halted := rfl
@[simp] theorem State.setBC_stopped (s : State) (w : Word) : (s.setBC w).stopped = s.stopped := rfl
@[simp] theorem State.setBC_mem (s : State) (w : Word) : (s.setBC w).mem = s.mem := rfl
@[simp] theorem State.setBC_taken (s : State) (w : Word) : (s.setBC w).taken = s.taken := rfl
@[simp] theorem State.setBC_cycles (s : State) (w : Word) : (s.setBC w).cycles = s.cycles := rfl
@[simp] theorem State.setBC_io (s : State) (w : Word) : (s.setBC w).io = s.io := rfl
@[simp] theorem State.setBC_cfg (s : State) (w : Word) : (s.setBC w).cfg = s.cfg := rfl

@[simp] theorem State.setDE_a (s : State) (w : Word) : (s.setDE w).a = s.a := rfl
@[simp] theorem State.setDE_b (s : State) (w : Word) : (s.setDE w).b = s.b := rfl
@[simp] theorem State.setDE_c (s : State) (w : Word) : (s.setDE w).c = s.c := rfl
@[simp] theorem State.setDE_h (s : State) (w : Word) : (s.setDE w).h = s.h := rfl
@[simp] theorem State.setDE_l (s : State) (w : Word) : (s.setDE w).l = s.l := rfl
@[simp] theorem State.setDE_flags (s : State) (w : Word) : (s.setDE w).flags = s.flags := rfl
@[simp] theorem State.setDE_sp (s : State) (w : Word) : (s.setDE w).sp = s.sp := rfl
@[simp] theorem State.setDE_pc (s : State) (w : Word) : (s.setDE w).pc = s.pc := rfl
@[simp] theorem State.setDE_ime (s : State) (w : Word) : (s.setDE w).ime = s.ime := rfl
@[simp] theorem State.setDE_imePending (s : State) (w : Word) : (s.setDE w).imePending = s.imePending := rfl
@[simp] theorem State.setDE_halted (s : State) (w : Word) : (s.setDE w).halted = s.halted := rfl
@[simp] theorem State.setDE_stopped (s : State) (w : Word) : (s.setDE w).stopped = s.stopped := rfl
@[simp] theorem State.setDE_mem (s : State) (w : Word) : (s.setDE w).mem = s.mem := rfl
@[simp] theorem State.setDE_taken (s : State) (w : Word) : (s.setDE w).taken = s.taken := rfl
@[simp] theorem State.setDE_cycles (s : State) (w : Word) : (s.setDE w).cycles = s.cycles := rfl
@[simp] theorem State.setDE_io (s : State) (w : Word) : (s.setDE w).io = s.io := rfl
@[simp] theorem State.setDE_cfg (s : State) (w : Word) : (s.setDE w).cfg = s.cfg := rfl

@[simp] theorem State.setHL_a (s : State) (w : Word) : (s.setHL w).a = s.a := rfl
@[simp] theorem State.setHL_b (s : State) (w : Word) : (s.setHL w).b = s.b := rfl
@[simp] theorem State.setHL_c (s : State) (w : Word) : (s.setHL w).c = s.c := rfl
@[simp] theorem State.setHL_d (s : State) (w : Word) : (s.setHL w).d = s.d := rfl
@[simp] theorem State.setHL_e (s : State) (w : Word) : (s.setHL w).e = s.e := rfl
@[simp] theorem State.setHL_flags (s : State) (w : Word) : (s.setHL w).flags = s.flags := rfl
@[simp] theorem State.setHL_sp (s : State) (w : Word) : (s.setHL w).sp = s.sp := rfl
@[simp] theorem State.setHL_pc (s : State) (w : Word) : (s.setHL w).pc = s.pc := rfl
@[simp] theorem State.setHL_ime (s : State) (w : Word) : (s.setHL w).ime = s.ime := rfl
@[simp] theorem State.setHL_imePending (s : State) (w : Word) : (s.setHL w).imePending = s.imePending := rfl
@[simp] theorem State.setHL_halted (s : State) (w : Word) : (s.setHL w).halted = s.halted := rfl
@[simp] theorem State.setHL_stopped (s : State) (w : Word) : (s.setHL w).stopped = s.stopped := rfl
@[simp] theorem State.setHL_mem (s : State) (w : Word) : (s.setHL w).mem = s.mem := rfl
@[simp] theorem State.setHL_taken (s : State) (w : Word) : (s.setHL w).taken = s.taken := rfl
@[simp] theorem State.setHL_cycles (s : State) (w : Word) : (s.setHL w).cycles = s.cycles := rfl
@[simp] theorem State.setHL_io (s : State) (w : Word) : (s.setHL w).io = s.io := rfl
@[simp] theorem State.setHL_cfg (s : State) (w : Word) : (s.setHL w).cfg = s.cfg := rfl

@[simp] theorem State.setAF_b (s : State) (w : Word) : (s.setAF w).b = s.b := rfl
@[simp] theorem State.setAF_c (s : State) (w : Word) : (s.setAF w).c = s.c := rfl
@[simp] theorem State.setAF_d (s : State) (w : Word) : (s.setAF w).d = s.d := rfl
@[simp] theorem State.setAF_e (s : State) (w : Word) : (s.setAF w).e = s.e := rfl
@[simp] theorem State.setAF_h (s : State) (w : Word) : (s.setAF w).h = s.h := rfl
@[simp] theorem State.setAF_l (s : State) (w : Word) : (s.setAF w).l = s.l := rfl
@[simp] theorem State.setAF_sp (s : State) (w : Word) : (s.setAF w).sp = s.sp := rfl
@[simp] theorem State.setAF_pc (s : State) (w : Word) : (s.setAF w).pc = s.pc := rfl
@[simp] theorem State.setAF_ime (s : State) (w : Word) : (s.setAF w).ime = s.ime := rfl
@[simp] theorem State.setAF_imePending (s : State) (w : Word) : (s.setAF w).imePending = s.imePending := rfl
@[simp] theorem State.setAF_halted (s : State) (w : Word) : (s.setAF w).halted = s.halted := rfl
@[simp] theorem State.setAF_stopped (s : State) (w : Word) : (s.setAF w).stopped = s.stopped := rfl
@[simp] theorem State.setAF_mem (s : State) (w : Word) : (s.setAF w).mem = s.mem := rfl
@[simp] theorem State.setAF_taken (s : State) (w : Word) : (s.setAF w).taken = s.taken := rfl
@[simp] theorem State.setAF_cycles (s : State) (w : Word) : (s.setAF w).cycles = s.cycles := rfl
@[simp] theorem State.setAF_io (s : State) (w : Word) : (s.setAF w).io = s.io := rfl
@[simp] theorem State.setAF_cfg (s : State) (w : Word) : (s.setAF w).cfg = s.cfg := rfl

@[simp] theorem State.setPair_a (s : State) (p : Pair) (w : Word) : (s.setPair p w).a = s.a := by cases p <;> rfl
@[simp] theorem State.setPair_flags (s : State) (p : Pair) (w : Word) : (s.setPair p w).flags = s.flags := by cases p <;> rfl
@[simp] theorem State.setPair_pc (s : State) (p : Pair) (w : Word) : (s.setPair p w).pc = s.pc := by cases p <;> rfl
@[simp] theorem State.setPair_ime (s : State) (p : Pair) (w : Word) : (s.setPair p w).ime = s.ime := by cases p <;> rfl
@[simp] theorem State.setPair_imePending (s : State) (p : Pair) (w : Word) : (s.setPair p w).imePending = s.imePending := by cases p <;> rfl
@[simp] theorem State.setPair_halted (s : State) (p : Pair) (w : Word) : (s.setPair p w).halted = s.halted := by cases p <;> rfl
@[simp] theorem State.setPair_stopped (s : State) (p : Pair) (w : Word) : (s.setPair p w).stopped = s.stopped := by cases p <;> rfl
@[simp] theorem State.setPair_mem (s : State) (p : Pair) (w : Word) : (s.setPair p w).mem = s.mem := by cases p <;> rfl
@[simp] theorem State.setPair_taken (s : State) (p : Pair) (w : Word) : (s.setPair p w).taken = s.taken := by cases p <;> rfl
@[simp] theorem State.setPair_cycles (s : State) (p : Pair) (w : Word) : (s.setPair p w).cycles = s.cycles := by cases p <;> rfl
@[simp] theorem State.setPair_io (s : State) (p : Pair) (w : Word) : (s.setPair p w).io = s.io := by cases p <;> rfl
@[simp] theorem State.setPair_cfg (s : State) (p : Pair) (w : Word) : (s.setPair p w).cfg = s.cfg := by cases p <;> rfl

@[simp] theorem State.setStackPair_sp (s : State) (p : StackPair) (w : Word) : (s.setStackPair p w).sp = s.sp := by cases p <;> rfl
@[simp] theorem State.setStackPair_pc (s : State) (p : StackPair) (w : Word) : (s.setStackPair p w).pc = s.pc := by cases p <;> rfl
@[simp] theorem State.setStackPair_ime (s : State) (p : StackPair) (w : Word) : (s.setStackPair p w).ime = s.ime := by cases p <;> rfl
@[simp] theorem State.setStackPair_imePending (s : State) (p : StackPair) (w : Word) : (s.setStackPair p w).imePending = s.imePending := by cases p <;> rfl
@[simp] theorem State.setStackPair_halted (s : State) (p : StackPair) (w : Word) : (s.setStackPair p w).halted = s.halted := by cases p <;> rfl
@[simp] theorem State.setStackPair_stopped (s : State) (p : StackPair) (w : Word) : (s.setStackPair p w).stopped = s.stopped := by cases p <;> rfl
@[simp] theorem State.setStackPair_mem (s : State) (p : StackPair) (w : Word) : (s.setStackPair p w).mem = s.mem := by cases p <;> rfl
@[simp] theorem State.setStackPair_taken (s : State) (p : StackPair) (w : Word) : (s.setStackPair p w).taken = s.taken := by cases p <;> rfl
@[simp] theorem State.setStackPair_cycles (s : State) (p : StackPair) (w : Word) : (s.setStackPair p w).cycles = s.cycles := by cases p <;> rfl
@[simp] theorem State.setStackPair_io (s : State) (p : StackPair) (w : Word) : (s.setStackPair p w).io = s.io := by cases p <;> rfl
@[simp] theorem State.setStackPair_cfg (s : State) (p : StackPair) (w : Word) : (s.setStackPair p w).cfg = s.cfg := by cases p <;> rfl

@[simp] theorem State.jump_a (s : State) (w : Word) : (s.jump w).a = s.a := rfl
@[simp] theorem State.jump_b (s : State) (w : Word) : (s.jump w).b = s.b := rfl
@[simp] theorem State.jump_c (s : State) (w : Word) : (s.jump w).c = s.c := rfl
@[simp] theorem State.jump_d (s : State) (w : Word) : (s.jump w).d = s.d := rfl
@[simp] theorem State.jump_e (s : State) (w : Word) : (s.jump w).e = s.e := rfl
@[simp] theorem State.jump_h (s : State) (w : Word) : (s.jump w).h = s.h := rfl
@[simp] theorem State.jump_l (s : State) (w : Word) : (s.jump w).l = s.l := rfl
@[simp] theorem State.jump_flags (s : State) (w : Word) : (s.jump w).flags = s.flags := rfl
@[simp] theorem State.jump_sp (s : State) (w : Word) : (s.jump w).sp = s.sp := rfl
@[simp] theorem State.jump_ime (s : State) (w : Word) : (s.jump w).ime = s.ime := rfl
@[simp] theorem State.jump_imePending (s : State) (w : Word) : (s.jump w).imePending = s.imePending := rfl
@[simp] theorem State.jump_halted (s : State) (w : Word) : (s.jump w).halted = s.halted := rfl
@[simp] theorem State.jump_stopped (s : State) (w : Word) : (s.jump w).stopped = s.stopped := rfl
@[simp] theorem State.jump_mem (s : State) (w : Word) : (s.jump w).mem = s.mem := rfl
@[simp] theorem State.jump_cycles (s : State) (w : Word) : (s.jump w).cycles = s.cycles := rfl
@[simp] theorem State.jump_io (s : State) (w : Word) : (s.jump w).io = s.io := rfl
@[simp] theorem State.jump_cfg (s : State) (w : Word) : (s.jump w).cfg = s.cfg := rfl

@[simp] theorem State.ptrAdjust_a (s : State) (p : Ptr) : (s.ptrAdjust p).a = s.a := by cases p <;> rfl
@[simp] theorem State.ptrAdjust_b (s : State) (p : Ptr) : (s.ptrAdjust p).b = s.b := by cases p <;> rfl
@[simp] theorem State.ptrAdjust_c (s : State) (p : Ptr) : (s.ptrAdjust p).c = s.c := by cases p <;> rfl
@[simp] theorem State.ptrAdjust_d (s : State) (p : Ptr) : (s.ptrAdjust p).d = s.d := by cases p <;> rfl
@[simp] theorem State.ptrAdjust_e (s : State) (p : Ptr) : (s.ptrAdjust p).e = s.e := by cases p <;> rfl
@[simp] theorem State.ptrAdjust_flags (s : State) (p : Ptr) : (s.ptrAdjust p).flags = s.flags := by cases p <;> rfl
@[simp] theorem State.ptrAdjust_sp (s : State) (p : Ptr) : (s.ptrAdjust p).sp = s.sp := by cases p <;> rfl
@[simp] theorem State.ptrAdjust_pc (s : State) (p : Ptr) : (s.ptrAdjust p).pc = s.pc := by cases p <;> rfl
@[simp] theorem State.ptrAdjust_ime (s : State) (p : Ptr) : (s.ptrAdjust p).ime = s.ime := by cases p <;> rfl
@[simp] theorem State.ptrAdjust_imePending (s : State) (p : Ptr) : (s.ptrAdjust p).imePending = s.imePending := by cases p <;> rfl
@[simp] theorem State.ptrAdjust_halted (s : State) (p : Ptr) : (s.ptrAdjust p).halted = s.halted := by cases p <;> rfl
@[simp] theorem State.ptrAdjust_stopped (s : State) (p : Ptr) : (s.ptrAdjust p).stopped = s.stopped := by cases p <;> rfl
@[simp] theorem State.ptrAdjust_mem (s : State) (p : Ptr) : (s.ptrAdjust p).mem = s.mem := by cases p <;> rfl
@[simp] theorem State.ptrAdjust_taken (s : State) (p : Ptr) : (s.ptrAdjust p).taken = s.taken := by cases p <;> rfl
@[simp] theorem State.ptrAdjust_cycles (s : State) (p : Ptr) : (s.ptrAdjust p).cycles = s.cycles := by cases p <;> rfl
@[simp] theorem State.ptrAdjust_io (s : State) (p : Ptr) : (s.ptrAdjust p).io = s.io := by cases p <;> rfl
@[simp] theorem State.ptrAdjust_cfg (s : State) (p : Ptr) : (s.ptrAdjust p).cfg = s.cfg := by cases p <;> rfl

@[simp] theorem State.afterRead_a (s : State) (x : Word) : (s.afterRead x).a = s.a := by unfold State.afterRead; split <;> rfl
@[simp] theorem State.afterRead_b (s : State) (x : Word) : (s.afterRead x).b = s.b := by unfold State.afterRead; split <;> rfl
@[simp] theorem State.afterRead_c (s : State) (x : Word) : (s.afterRead x).c = s.c := by unfold State.afterRead; split <;> rfl
@[simp] theorem State.afterRead_d (s : State) (x : Word) : (s.afterRead x).d = s.d := by unfold State.afterRead; split <;> rfl
@[simp] theorem State.afterRead_e (s : State) (x : Word) : (s.afterRead x).e = s.e := by unfold State.afterRead; split <;> rfl
@[simp] theorem State.afterRead_h (s : State) (x : Word) : (s.afterRead x).h = s.h := by unfold State.afterRead; split <;> rfl
@[simp] theorem State.afterRead_l (s : State) (x : Word) : (s.afterRead x).l = s.l := by unfold State.afterRead; split <;> rfl
@[simp] theorem State.afterRead_flags (s : State) (x : Word) : (s.afterRead x).flags = s.flags := by unfold State.afterRead; split <;> rfl
@[simp] theorem State.afterRead_sp (s : State) (x : Word) : (s.afterRead x).sp = s.sp := by unfold State.afterRead; split <;> rfl
@[simp] theorem State.afterRead_pc (s : State) (x : Word) : (s.afterRead x).pc = s.pc := by unfold State.afterRead; split <;> rfl
@[simp] theorem State.afterRead_ime (s : State) (x : Word) : (s.afterRead x).ime = s.ime := by unfold State.afterRead; split <;> rfl
@[simp] theorem State.afterRead_imePending (s : State) (x : Word) : (s.afterRead x).imePending = s.imePending := by unfold State.afterRead; split <;> rfl
@[simp] theorem State.afterRead_halted (s : State) (x : Word) : (s.afterRead x).halted = s.halted := by unfold State.afterRead; split <;> rfl
@[simp] theorem State.afterRead_stopped (s : State) (x : Word) : (s.afterRead x).stopped = s.stopped := by unfold State.afterRead; split <;> rfl
@[simp] theorem State.afterRead_mem (s : State) (x : Word) : (s.afterRead x).mem = s.mem := by unfold State.afterRead; split <;> rfl
@[simp] theorem State.afterRead_taken (s : State) (x : Word) : (s.afterRead x).taken = s.taken := by unfold State.afterRead; split <;> rfl
@[simp] theorem State.afterRead_cycles (s : State) (x : Word) : (s.afterRead x).cycles = s.cycles := by unfold State.afterRead; split <;> rfl
@[simp] theorem State.afterRead_cfg (s : State) (x : Word) : (s.afterRead x).cfg = s.cfg := by unfold State.afterRead; split <;> rfl

@[simp] theorem State.poke_a (s : State) (x : Word) (v : Byte) : (s.poke x v).a = s.a := by unfold State.poke; split <;> rfl
@[simp] theorem State.poke_b (s : State) (x : Word) (v : Byte) : (s.poke x v).b = s.b := by unfold State.poke; split <;> rfl
@[simp] theorem State.poke_c (s : State) (x : Word) (v : Byte) : (s.poke x v).c = s.c := by unfold State.poke; split <;> rfl
@[simp] theorem State.poke_d (s : State) (x : Word) (v : Byte) : (s.poke x v).d = s.d := by unfold State.poke; split <;> rfl
@[simp] theorem State.poke_e (s : State) (x : Word) (v : Byte) : (s.poke x v).e = s.e := by unfold State.poke; split <;> rfl
@[simp] theorem State.poke_h (s : State) (x : Word) (v : Byte) : (s.poke x v).h = s.h := by unfold State.poke; split <;> rfl
@[simp] theorem State.poke_l (s : State) (x : Word) (v : Byte) : (s.poke x v).l = s.l := by unfold State.poke; split <;> rfl
@[simp] theorem State.poke_flags (s : State) (x : Word) (v : Byte) : (s.poke x v).flags = s.flags := by unfold State.poke; split <;> rfl
@[simp] theorem State.poke_sp (s : State) (x : Word) (v : Byte) : (s.poke x v).sp = s.sp := by unfold State.poke; split <;> rfl
@[simp] theorem State.poke_pc (s : State) (x : Word) (v : Byte) : (s.poke x v).pc = s.pc := by unfold State.poke; split <;> rfl
@[simp] theorem State.poke_ime (s : State) (x : Word) (v : Byte) : (s.poke x v).ime = s.ime := by unfold State.poke; split <;> rfl
@[simp] theorem State.poke_imePending (s : State) (x : Word) (v : Byte) : (s.poke x v).imePending = s.imePending := by unfold State.poke; split <;> rfl
@[simp] theorem State.poke_halted (s : State) (x : Word) (v : Byte) : (s.poke x v).halted = s.halted := by unfold State.poke; split <;> rfl
@[simp] theorem State.poke_stopped (s : State) (x : Word) (v : Byte) : (s.poke x v).stopped = s.stopped := by unfold State.poke; split <;> rfl
@[simp] theorem State.poke_taken (s : State) (x : Word) (v : Byte) : (s.poke x v).taken = s.taken := by unfold State.poke; split <;> rfl
@[simp] theorem State.poke_cycles (s : State) (x : Word) (v : Byte) : (s.poke x v).cycles = s.cycles := by unfold State.poke; split <;> rfl
@[simp] theorem State.poke_cfg (s : State) (x : Word) (v : Byte) : (s.poke x v).cfg = s.cfg := by unfold State.poke; split <;> rfl

/-! ### The halves of a word (R11, R24) -/

@[simp] theorem loByte_mkWord (hi lo : Byte) : loByte (mkWord hi lo) = lo := by
  ext i hi'
  simp [loByte, mkWord]

@[simp] theorem hiByte_mkWord (hi lo : Byte) : hiByte (mkWord hi lo) = hi := by
  ext i hi'
  have h1 : 8 + i < 16 := by omega
  have h2 : i < 16 := by omega
  simp [hiByte, mkWord, h1, h2, BitVec.getLsbD_eq_getElem hi']

@[simp] theorem mkWord_hi_lo (w : Word) : mkWord (hiByte w) (loByte w) = w := by
  ext i hi'
  by_cases h : i < 8
  · simp [hiByte, loByte, mkWord, h, BitVec.getLsbD_eq_getElem hi']
  · have h9 : 8 + (i - 8) = i := by omega
    have h8 : i - 8 < 8 := by omega
    simp [hiByte, loByte, mkWord, h, h8, h9, BitVec.getLsbD_eq_getElem hi']

/-! ### Reading back what was written (R23 to R26) -/

@[simp] theorem State.getReg_setReg_same (s : State) (r : Reg8) (v : Byte) : (s.setReg r v).getReg r = v := by
  cases r <;> rfl

theorem State.getReg_setReg_other (s : State) {r q : Reg8} (v : Byte) (h : q ≠ r) :
    (s.setReg r v).getReg q = s.getReg q := by
  cases r <;> cases q <;> first | rfl | exact absurd rfl h

@[simp] theorem State.setReg_getReg (s : State) (r : Reg8) : s.setReg r (s.getReg r) = s := by cases r <;> rfl

@[simp] theorem State.hl_setHL (s : State) (w : Word) : (s.setHL w).hl = w := mkWord_hi_lo w

@[simp] theorem State.bc_setBC (s : State) (w : Word) : (s.setBC w).bc = w := mkWord_hi_lo w

@[simp] theorem State.de_setDE (s : State) (w : Word) : (s.setDE w).de = w := mkWord_hi_lo w

@[simp] theorem State.getPair_setPair_same (s : State) (p : Pair) (w : Word) : (s.setPair p w).getPair p = w := by
  cases p <;> first | exact mkWord_hi_lo w | rfl

@[simp] theorem State.getReg_afterRead (s : State) (x : Word) (r : Reg8) :
    (s.afterRead x).getReg r = s.getReg r := by
  unfold State.afterRead; split <;> rfl

@[simp] theorem State.hl_afterRead (s : State) (x : Word) : (s.afterRead x).hl = s.hl := by
  unfold State.afterRead; split <;> rfl

@[simp] theorem State.hl_poke (s : State) (x : Word) (v : Byte) : (s.poke x v).hl = s.hl := by
  unfold State.poke; split <;> rfl

/-- On an address that is no device's, a read leaves the state alone (R50). -/
theorem State.afterRead_ram {s : State} {x : Word} (h : s.cfg.isDevice x = false) : s.afterRead x = s := by
  simp [State.afterRead, h]

/-- On an address that is no device's, a read gets the byte memory holds (R50). -/
theorem State.peek_ram {s : State} {x : Word} (h : s.cfg.isDevice x = false) : s.peek x = s.mem.read x.toNat := by
  simp [State.peek, h]

/-- On an address that is no device's, a write stores the byte in memory and changes nothing else (R53). -/
theorem State.poke_ram {s : State} {x : Word} (h : s.cfg.isDevice x = false) (v : Byte) :
    s.poke x v = { s with mem := s.mem.write x.toNat v } := by
  simp [State.poke, h]

end Sys2Proof.Machine
end

