-- ==== Sys2Proof/Laws/Access.lean ====
section
/-! SUPPORT. Everything one access, one operand read or write, one push, pop or interrupt service can do (20_memory.md R52
to R57; 30_encoding.md R73; 43_alu8.md R150; 60_exceptions.md R265, R266). -/

namespace Sys2Proof.Machine

/-! ### Continuing or ending a step -/

@[simp] theorem orFault_ok {α : Type} (v : α) (k : α → Out) : orFault (.ok v) k = k v := rfl
@[simp] theorem orFault_error {α : Type} (f : Fault) (k : α → Out) : orFault (.error f) k = .fault f := rfl

/-- A next state comes from a value and its continuation. -/
theorem orFault_next {α : Type} {x : Except Fault α} {k : α → Out} {t : State} (h : orFault x k = .next t) :
    ∃ v, x = .ok v ∧ k v = .next t := by
  cases x with
  | ok v => exact ⟨v, rfl, h⟩
  | error f => cases h

/-- A fault comes from the value or from its continuation. -/
theorem orFault_fault {α : Type} {x : Except Fault α} {k : α → Out} {f : Fault} (h : orFault x k = .fault f) :
    x = .error f ∨ ∃ v, x = .ok v ∧ k v = .fault f := by
  cases x with
  | ok v => exact .inr ⟨v, rfl, h⟩
  | error g => cases h; exact .inl rfl

/-- A refusal comes from the continuation. -/
theorem orFault_refused {α : Type} {x : Except Fault α} {k : α → Out} {r : Refusal} (h : orFault x k = .refused r) :
    ∃ v, x = .ok v ∧ k v = .refused r := by
  cases x with
  | ok v => exact ⟨v, rfl, h⟩
  | error f => cases h

/-! ### One byte -/

theorem memRead_ok {s : State} {a : Word} {k : Access} (h : s.cfg.faultInfo a k = none) :
    memRead s a k = .ok (s.peek a, s.afterRead a) := by simp [memRead, h]

theorem memRead_fault {s : State} {a : Word} {k : Access} {n : Nat} (h : s.cfg.faultInfo a k = some n) :
    memRead s a k = .error (.memoryFault a k n) := by simp [memRead, h]

/-- All a read that succeeds can answer. -/
theorem memRead_eq_ok {s : State} {a : Word} {k : Access} {r : Byte × State} :
    memRead s a k = .ok r ↔ s.cfg.faultInfo a k = none ∧ r = (s.peek a, s.afterRead a) := by
  unfold memRead
  cases h : s.cfg.faultInfo a k with
  | none => simp [eq_comm]
  | some n => simp

/-- All a read that faults can answer. -/
theorem memRead_eq_error {s : State} {a : Word} {k : Access} {f : Fault} :
    memRead s a k = .error f ↔ ∃ n, s.cfg.faultInfo a k = some n ∧ f = .memoryFault a k n := by
  unfold memRead
  cases h : s.cfg.faultInfo a k with
  | none => simp
  | some n => simp [eq_comm]

theorem memWrite_ok {s : State} {a : Word} (v : Byte) (h : s.cfg.faultInfo a .write = none) :
    memWrite s a v = .ok (s.poke a v) := by simp [memWrite, h]

theorem memWrite_fault {s : State} {a : Word} (v : Byte) {n : Nat} (h : s.cfg.faultInfo a .write = some n) :
    memWrite s a v = .error (.memoryFault a .write n) := by simp [memWrite, h]

/-- All a write that succeeds can answer. -/
theorem memWrite_eq_ok {s t : State} {a : Word} {v : Byte} :
    memWrite s a v = .ok t ↔ s.cfg.faultInfo a .write = none ∧ t = s.poke a v := by
  unfold memWrite
  cases h : s.cfg.faultInfo a .write with
  | none => simp [eq_comm]
  | some n => simp

/-- All a write that faults can answer. -/
theorem memWrite_eq_error {s : State} {a : Word} {v : Byte} {f : Fault} :
    memWrite s a v = .error f ↔ ∃ n, s.cfg.faultInfo a .write = some n ∧ f = .memoryFault a .write n := by
  unfold memWrite
  cases h : s.cfg.faultInfo a .write with
  | none => simp
  | some n => simp [eq_comm]

/-! ### One word: two bytes, the low one first (R54, R55) -/

/-- All a word read that succeeds can answer. -/
theorem memRead16_eq_ok {s : State} {a : Word} {r : Word × State} :
    memRead16 s a = .ok r ↔ s.cfg.faultInfo a .read = none ∧ s.cfg.faultInfo (a + 1#16) .read = none ∧
      r = (mkWord ((s.afterRead a).peek (a + 1#16)) (s.peek a), (s.afterRead a).afterRead (a + 1#16)) := by
  unfold memRead16 memRead
  generalize a + 1#16 = b
  cases h : s.cfg.faultInfo a .read with
  | some n => simp
  | none =>
    cases h2 : s.cfg.faultInfo b .read with
    | some n => simp [h2]
    | none => simp [h2, eq_comm]

/-- All a word read that faults can answer. -/
theorem memRead16_eq_error {s : State} {a : Word} {f : Fault} :
    memRead16 s a = .error f ↔ (∃ n, s.cfg.faultInfo a .read = some n ∧ f = .memoryFault a .read n) ∨
      (s.cfg.faultInfo a .read = none ∧
        ∃ n, s.cfg.faultInfo (a + 1#16) .read = some n ∧ f = .memoryFault (a + 1#16) .read n) := by
  unfold memRead16 memRead
  generalize a + 1#16 = b
  cases h : s.cfg.faultInfo a .read with
  | some n => simp [eq_comm]
  | none =>
    cases h2 : s.cfg.faultInfo b .read with
    | some n => simp [h2, eq_comm]
    | none => simp [h2]

/-- All a word write that succeeds can answer. -/
theorem memWrite16_eq_ok {s t : State} {a v : Word} :
    memWrite16 s a v = .ok t ↔ s.cfg.faultInfo a .write = none ∧ s.cfg.faultInfo (a + 1#16) .write = none ∧
      t = (s.poke a (loByte v)).poke (a + 1#16) (hiByte v) := by
  unfold memWrite16 memWrite
  generalize a + 1#16 = b
  cases h : s.cfg.faultInfo a .write with
  | some n => simp
  | none =>
    cases h2 : s.cfg.faultInfo b .write with
    | some n => simp [h2]
    | none => simp [h2, eq_comm]

/-- All a word write that faults can answer. -/
theorem memWrite16_eq_error {s : State} {a v : Word} {f : Fault} :
    memWrite16 s a v = .error f ↔ (∃ n, s.cfg.faultInfo a .write = some n ∧ f = .memoryFault a .write n) ∨
      (s.cfg.faultInfo a .write = none ∧
        ∃ n, s.cfg.faultInfo (a + 1#16) .write = some n ∧ f = .memoryFault (a + 1#16) .write n) := by
  unfold memWrite16 memWrite
  generalize a + 1#16 = b
  cases h : s.cfg.faultInfo a .write with
  | some n => simp [eq_comm]
  | none =>
    cases h2 : s.cfg.faultInfo b .write with
    | some n => simp [h2, eq_comm]
    | none => simp [h2]

/-! ### The stack (00_scope.md R14) -/

/-- All a push that succeeds can answer. -/
theorem push16_eq_ok {s t : State} {v : Word} :
    push16 s v = .ok t ↔ s.cfg.faultInfo (s.sp - 2#16) .write = none ∧ s.cfg.faultInfo (s.sp - 2#16 + 1#16) .write = none ∧
      t = (({ s with sp := s.sp - 2#16 }).poke (s.sp - 2#16) (loByte v)).poke (s.sp - 2#16 + 1#16) (hiByte v) := by
  unfold push16; exact memWrite16_eq_ok

/-- All a push that faults can answer. -/
theorem push16_eq_error {s : State} {v : Word} {f : Fault} :
    push16 s v = .error f ↔
      (∃ n, s.cfg.faultInfo (s.sp - 2#16) .write = some n ∧ f = .memoryFault (s.sp - 2#16) .write n) ∨
      (s.cfg.faultInfo (s.sp - 2#16) .write = none ∧
        ∃ n, s.cfg.faultInfo (s.sp - 2#16 + 1#16) .write = some n ∧ f = .memoryFault (s.sp - 2#16 + 1#16) .write n) := by
  unfold push16; exact memWrite16_eq_error

/-- All a pop that succeeds can answer. -/
theorem pop16_eq_ok {s : State} {r : Word × State} :
    pop16 s = .ok r ↔ s.cfg.faultInfo s.sp .read = none ∧ s.cfg.faultInfo (s.sp + 1#16) .read = none ∧
      r = (mkWord ((s.afterRead s.sp).peek (s.sp + 1#16)) (s.peek s.sp),
        { (s.afterRead s.sp).afterRead (s.sp + 1#16) with sp := s.sp + 2#16 }) := by
  unfold pop16
  cases h : memRead16 s s.sp with
  | error f =>
    rw [memRead16_eq_error] at h
    rcases h with ⟨n, h, -⟩ | ⟨-, n, h, -⟩
    · simp [h]
    · simp only [h]; simp
  | ok x =>
    rw [memRead16_eq_ok] at h
    obtain ⟨h1, h2, rfl⟩ := h
    simp only [h1, h2, State.afterRead_sp, Except.ok.injEq, true_and]
    exact eq_comm

/-- All a pop that faults can answer. -/
theorem pop16_eq_error {s : State} {f : Fault} :
    pop16 s = .error f ↔ (∃ n, s.cfg.faultInfo s.sp .read = some n ∧ f = .memoryFault s.sp .read n) ∨
      (s.cfg.faultInfo s.sp .read = none ∧
        ∃ n, s.cfg.faultInfo (s.sp + 1#16) .read = some n ∧ f = .memoryFault (s.sp + 1#16) .read n) := by
  rw [← memRead16_eq_error]
  unfold pop16
  cases memRead16 s s.sp <;> simp

/-- A push in the terms of the halves of the word. -/
theorem State.pushed_eq (s : State) (v : Word) : s.pushed v =
    (({ s with sp := s.sp - 2#16 }).poke (s.sp - 2#16) (loByte v)).poke (s.sp - 2#16 + 1#16) (hiByte v) := by
  rw [loByte_eq_ofNat, hiByte_eq_ofNat]; rfl

/-- A push on plain RAM changes SP and memory, and its two bytes read back. -/
theorem State.pushed_ram {s : State} (v : Word) (hw : s.mem.wf = true) (h1 : s.ramAt (s.sp - 2#16))
    (h2 : s.ramAt (s.sp - 2#16 + 1#16)) :
    s.pushed v = { s with sp := s.sp - 2#16, mem := (s.pushed v).mem } ∧
      (s.pushed v).mem.read (s.sp - 2#16).toNat = loByte v ∧
      (s.pushed v).mem.read (s.sp - 2#16 + 1#16).toNat = hiByte v := by
  have hp : s.pushed v = { s with
      sp := s.sp - 2#16,
      mem := (s.mem.write (s.sp - 2#16).toNat (loByte v)).write (s.sp - 2#16 + 1#16).toNat (hiByte v) } := by
    rw [State.pushed_eq, State.poke_ram (s := { s with sp := s.sp - 2#16 }) h1.1]
    exact State.poke_ram (by exact h2.1) _
  rw [hp]
  refine ⟨rfl, ?_, Memory.read_write_same _ _ (Memory.write_wf hw _ _)⟩
  rw [Memory.read_write_other _ (fun h => add_one_ne _ (BitVec.eq_of_toNat_eq h.symm)) (Memory.write_wf hw _ _),
    Memory.read_write_same _ _ hw]

/-- A pop of a word that stands on plain RAM: it is allowed, gets the word, and changes SP only. -/
theorem State.popped_ram {u : State} {v : Word} (h1 : u.ramAt u.sp) (h2 : u.ramAt (u.sp + 1#16))
    (lo : u.mem.read u.sp.toNat = loByte v) (hi : u.mem.read (u.sp + 1#16).toNat = hiByte v) :
    u.popOk ∧ mkWord ((u.afterRead u.sp).peek (u.sp + 1#16)) (u.peek u.sp) = v ∧
      u.popped = { u with sp := u.sp + 2#16 } := by
  refine ⟨⟨h1.2.1, h2.2.1⟩, ?_, ?_⟩
  · rw [State.afterRead_ram h1.1, State.peek_ram h1.1, State.peek_ram h2.1, lo, hi, mkWord_hi_lo]
  · rw [State.popped, State.afterRead_ram h1.1, State.afterRead_ram h2.1]

/-! ### Operand fields (R73, R150) -/

/-- All an operand read that succeeds can answer. -/
theorem readLoc_eq_ok {s : State} {x : Loc8} {r : Byte × State} :
    readLoc s x = .ok r ↔ locReadOk x s ∧ r = (locValue x s, locAfter x s) := by
  cases x with
  | reg q => simp [readLoc, locReadOk, locValue, locAfter, eq_comm]
  | ind => exact memRead_eq_ok

/-- All a source read that succeeds can answer. -/
theorem readSrc_eq_ok {s : State} {x : Src8} {r : Byte × State} :
    readSrc s x = .ok r ↔ srcOk x s ∧ r = (srcValue x s, srcAfter x s) := by
  cases x with
  | reg q => simp [readSrc, srcOk, srcValue, srcAfter, eq_comm]
  | imm v => simp [readSrc, srcOk, srcValue, srcAfter, eq_comm]
  | ind => exact memRead_eq_ok

/-- All a read and write back that succeeds can answer. -/
theorem writeLoc_eq_ok {s t : State} {x : Loc8} {v : Byte} :
    writeLoc (locAfter x s) x v = .ok t ↔
      (x = .ind → s.cfg.faultInfo s.hl .write = none) ∧ t = locStored x s v := by
  cases x with
  | reg q => simp [writeLoc, locAfter, locStored, eq_comm]
  | ind => simp [writeLoc, locAfter, locStored, memWrite_eq_ok]

/-! ### Interrupt service (R266) -/

/-- All a service that is accepted can answer. -/
theorem service_eq_next {s t : State} {vector : Word} :
    service vector s = .next t ↔ s.ime = true ∧ s.stopped = false ∧
      s.cfg.faultInfo (s.sp - 2#16) .write = none ∧ s.cfg.faultInfo (s.sp - 2#16 + 1#16) .write = none ∧
      t = { (({ s with halted := false, ime := false, imePending := false, sp := s.sp - 2#16 }).poke
              (s.sp - 2#16) (loByte s.pc)).poke (s.sp - 2#16 + 1#16) (hiByte s.pc) with
            pc := vector, cycles := s.cfg.interruptCycles } := by
  unfold service
  constructor
  · intro h
    split at h
    · cases h
    · rename_i hc
      obtain ⟨u, hu, h⟩ := orFault_next h
      rw [push16_eq_ok] at hu
      obtain ⟨h1, h2, rfl⟩ := hu
      cases h
      simp only [Bool.or_eq_true, Bool.not_eq_true', not_or, Bool.not_eq_false, Bool.not_eq_true] at hc
      exact ⟨hc.1, hc.2, h1, h2, by simp⟩
  · rintro ⟨hi, hs, h1, h2, rfl⟩
    have hp : push16 { s with halted := false, ime := false, imePending := false } s.pc = .ok _ :=
      push16_eq_ok.2 ⟨h1, h2, rfl⟩
    rw [if_neg (by simp [hi, hs]), hp]
    simp only [orFault_ok, State.poke_cfg]

/-- A service is refused exactly when IME = 0 or STOPPED = 1. -/
theorem service_eq_refused {s : State} {vector : Word} {r : Refusal} :
    service vector s = .refused r ↔ (s.ime = false ∨ s.stopped = true) ∧ r = .interruptNotServiced := by
  unfold service
  constructor
  · intro h
    split at h
    · rename_i hc
      cases h
      simpa using hc
    · obtain ⟨u, -, h⟩ := orFault_refused h
      cases h
  · rintro ⟨h, rfl⟩
    rw [if_pos (by simpa using h)]

/-! ### The canonical form of memory (every operation keeps it) -/

theorem State.poke_wf {s : State} (h : s.mem.wf = true) (a : Word) (v : Byte) : (s.poke a v).mem.wf = true := by
  unfold State.poke
  split
  · exact h
  · exact Memory.write_wf h a v

theorem State.reset_mem_wf : State.reset.mem.wf = true := rfl

theorem locStored_wf {s : State} (h : s.mem.wf = true) (x : Loc8) (v : Byte) : (locStored x s v).mem.wf = true := by
  cases x with
  | reg r => simpa [locStored] using h
  | ind => exact State.poke_wf (by simpa using h) _ _

end Sys2Proof.Machine
end

