-- ==== Sys2Proof/Laws/Exec.lean ====
section
/-! SUPPORT. The 511 meanings by their forms: `exec i` is the shared operation of `i.form`, and what each operation on memory
answers, in terms of the accesses it makes. A proof about all instructions is a case analysis over the 56 forms. -/

namespace Sys2Proof.Machine

/-- The shared operation of a form (files 41 to 48). -/
def runForm : Form → State → Out
  | .ldRegReg dst src => opLdRegReg dst src
  | .ldRegImm dst v => opLdRegImm dst v
  | .ldRegInd dst => opLdRegInd dst
  | .ldIndReg src => opLdIndReg src
  | .ldIndImm v => opLdIndImm v
  | .ldAPtr p => opLdAPtr p
  | .ldPtrA p => opLdPtrA p
  | .ldAbsA w => opLdAbsA w
  | .ldAAbs w => opLdAAbs w
  | .ldhPageA n => opLdhPageA n
  | .ldhAPage n => opLdhAPage n
  | .ldhCA => opLdhCA
  | .ldhAC => opLdhAC
  | .ldPairImm p w => opLdPairImm p w
  | .ldAbsSP w => opLdAbsSP w
  | .ldSPHL => opLdSPHL
  | .push p => opPush p
  | .pop p => opPop p
  | .ldHLSPOff e => opLdHLSPOff e
  | .alu op src => opAlu op src
  | .inc8 x => opInc8 x
  | .dec8 x => opDec8 x
  | .addHL p => opAddHL p
  | .inc16 p => opInc16 p
  | .dec16 p => opDec16 p
  | .addSPOff e => opAddSPOff e
  | .rlca => opRlca
  | .rrca => opRrca
  | .rla => opRla
  | .rra => opRra
  | .daa => opDaa
  | .cpl => opCpl
  | .scf => opScf
  | .ccf => opCcf
  | .nop => opNop
  | .shift op x => opShift op x
  | .bit b x => opBit b x
  | .res b x => opRes b x
  | .set b x => opSet b x
  | .jp w => opJp w
  | .jpCC cc w => opJpCC cc w
  | .jpHL => opJpHL
  | .jr e => opJr e
  | .jrCC cc e => opJrCC cc e
  | .call w => opCall w
  | .callCC cc w => opCallCC cc w
  | .ret => opRet
  | .retCC cc => opRetCC cc
  | .reti => opReti
  | .rst y => opRst y
  | .halt => opHalt
  | .stop => opStop
  | .di => opDi
  | .ei => opEi
  | .illegal op => opIllegal op

/-- Every arm of the dispatcher is the operation of its row's form. -/
theorem exec_eq_runForm (i : Instr) (s : State) : exec i s = runForm i.form s := by cases i <;> rfl

/-! ### What the operations with a memory operand answer -/

theorem opLdRegInd_eq_next {dst : Reg8} {s t : State} : opLdRegInd dst s = .next t ↔
    s.cfg.faultInfo s.hl .read = none ∧ t = (s.afterRead s.hl).setReg dst (s.peek s.hl) := by
  constructor
  · intro h
    obtain ⟨r, hr, h⟩ := orFault_next h
    obtain ⟨h1, rfl⟩ := memRead_eq_ok.1 hr
    cases h; exact ⟨h1, rfl⟩
  · rintro ⟨h, rfl⟩; unfold opLdRegInd; rw [memRead_ok h]; rfl

theorem opLdIndReg_eq_next {src : Reg8} {s t : State} : opLdIndReg src s = .next t ↔
    s.cfg.faultInfo s.hl .write = none ∧ t = s.poke s.hl (s.getReg src) := by
  constructor
  · intro h
    obtain ⟨r, hr, h⟩ := orFault_next h
    obtain ⟨h1, rfl⟩ := memWrite_eq_ok.1 hr
    cases h; exact ⟨h1, rfl⟩
  · rintro ⟨h, rfl⟩; unfold opLdIndReg; rw [memWrite_ok _ h]; rfl

theorem opLdIndImm_eq_next {v : Byte} {s t : State} : opLdIndImm v s = .next t ↔
    s.cfg.faultInfo s.hl .write = none ∧ t = s.poke s.hl v := by
  constructor
  · intro h
    obtain ⟨r, hr, h⟩ := orFault_next h
    obtain ⟨h1, rfl⟩ := memWrite_eq_ok.1 hr
    cases h; exact ⟨h1, rfl⟩
  · rintro ⟨h, rfl⟩; unfold opLdIndImm; rw [memWrite_ok _ h]; rfl

theorem opLdAPtr_eq_next {p : Ptr} {s t : State} : opLdAPtr p s = .next t ↔
    s.cfg.faultInfo (s.ptrAddr p) .read = none ∧
      t = { s.afterRead (s.ptrAddr p) with a := s.peek (s.ptrAddr p) }.ptrAdjust p := by
  constructor
  · intro h
    obtain ⟨r, hr, h⟩ := orFault_next h
    obtain ⟨h1, rfl⟩ := memRead_eq_ok.1 hr
    cases h; exact ⟨h1, rfl⟩
  · rintro ⟨h, rfl⟩; unfold opLdAPtr; rw [memRead_ok h]; rfl

theorem opLdPtrA_eq_next {p : Ptr} {s t : State} : opLdPtrA p s = .next t ↔
    s.cfg.faultInfo (s.ptrAddr p) .write = none ∧ t = (s.poke (s.ptrAddr p) s.a).ptrAdjust p := by
  constructor
  · intro h
    obtain ⟨r, hr, h⟩ := orFault_next h
    obtain ⟨h1, rfl⟩ := memWrite_eq_ok.1 hr
    cases h; exact ⟨h1, rfl⟩
  · rintro ⟨h, rfl⟩; unfold opLdPtrA; rw [memWrite_ok _ h]; rfl

theorem opLdAbsA_eq_next {w : Word} {s t : State} : opLdAbsA w s = .next t ↔
    s.cfg.faultInfo w .write = none ∧ t = s.poke w s.a := by
  constructor
  · intro h
    obtain ⟨r, hr, h⟩ := orFault_next h
    obtain ⟨h1, rfl⟩ := memWrite_eq_ok.1 hr
    cases h; exact ⟨h1, rfl⟩
  · rintro ⟨h, rfl⟩; unfold opLdAbsA; rw [memWrite_ok _ h]; rfl

theorem opLdAAbs_eq_next {w : Word} {s t : State} : opLdAAbs w s = .next t ↔
    s.cfg.faultInfo w .read = none ∧ t = { s.afterRead w with a := s.peek w } := by
  constructor
  · intro h
    obtain ⟨r, hr, h⟩ := orFault_next h
    obtain ⟨h1, rfl⟩ := memRead_eq_ok.1 hr
    cases h; exact ⟨h1, rfl⟩
  · rintro ⟨h, rfl⟩; unfold opLdAAbs; rw [memRead_ok h]; rfl

theorem opLdAbsSP_eq_next {w : Word} {s t : State} : opLdAbsSP w s = .next t ↔
    s.cfg.faultInfo w .write = none ∧ s.cfg.faultInfo (w + 1#16) .write = none ∧
      t = (s.poke w (loByte s.sp)).poke (w + 1#16) (hiByte s.sp) := by
  rw [← memWrite16_eq_ok]
  unfold opLdAbsSP
  constructor
  · intro h
    obtain ⟨r, hr, h⟩ := orFault_next h
    cases h; exact hr
  · intro h; rw [h]; rfl

theorem opPush_eq_next {p : StackPair} {s t : State} : opPush p s = .next t ↔
    push16 s (s.getStackPair p) = .ok t := by
  unfold opPush
  constructor
  · intro h
    obtain ⟨r, hr, h⟩ := orFault_next h
    cases h; exact hr
  · intro h; rw [h]; rfl

theorem opPop_eq_next {p : StackPair} {s t : State} : opPop p s = .next t ↔
    ∃ r, pop16 s = .ok r ∧ t = r.2.setStackPair p r.1 := by
  unfold opPop
  constructor
  · intro h
    obtain ⟨r, hr, h⟩ := orFault_next h
    cases h; exact ⟨r, hr, rfl⟩
  · rintro ⟨r, hr, rfl⟩; rw [hr]; rfl

theorem opAlu_eq_next {op : AluOp} {src : Src8} {s t : State} : opAlu op src s = .next t ↔
    srcOk src s ∧ t = { srcAfter src s with
      a := (aluResult op s.a (srcValue src s) s.flags.c).1,
      flags := (aluResult op s.a (srcValue src s) s.flags.c).2 } := by
  unfold opAlu
  constructor
  · intro h
    obtain ⟨r, hr, h⟩ := orFault_next h
    obtain ⟨h1, rfl⟩ := readSrc_eq_ok.1 hr
    cases h; exact ⟨h1, rfl⟩
  · rintro ⟨h, rfl⟩; rw [readSrc_eq_ok.2 ⟨h, rfl⟩]; rfl

/-- Read an operand, write a value back, set flags: the shape of INC, DEC and the rotates and shifts. -/
theorem readModifyWrite_eq_next {x : Loc8} {s t : State} {g : Byte → Byte} {fl : Byte → Flags} :
    (orFault (readLoc s x) fun r => orFault (writeLoc r.2 x (g r.1)) fun u => .next { u with flags := fl r.1 }) =
      .next t ↔ locOk x s ∧ t = { locStored x s (g (locValue x s)) with flags := fl (locValue x s) } := by
  constructor
  · intro h
    obtain ⟨r, hr, h⟩ := orFault_next h
    obtain ⟨h1, rfl⟩ := readLoc_eq_ok.1 hr
    obtain ⟨u, hu, h⟩ := orFault_next h
    obtain ⟨h2, rfl⟩ := writeLoc_eq_ok.1 hu
    cases h
    refine ⟨?_, rfl⟩
    cases x with
    | reg q => trivial
    | ind => exact ⟨h1, h2 rfl⟩
  · rintro ⟨h, rfl⟩
    have h1 : locReadOk x s := by cases x with | reg q => trivial | ind => exact h.1
    have h2 : x = .ind → s.cfg.faultInfo s.hl .write = none := by
      intro hx; subst hx; exact h.2
    rw [readLoc_eq_ok.2 ⟨h1, rfl⟩, orFault_ok, writeLoc_eq_ok.2 ⟨h2, rfl⟩, orFault_ok]

theorem opInc8_eq_next {x : Loc8} {s t : State} : opInc8 x s = .next t ↔
    locOk x s ∧ t = { locStored x s (incResult (locValue x s) s.flags).1 with
      flags := (incResult (locValue x s) s.flags).2 } :=
  readModifyWrite_eq_next (g := fun v => (incResult v s.flags).1) (fl := fun v => (incResult v s.flags).2)

theorem opDec8_eq_next {x : Loc8} {s t : State} : opDec8 x s = .next t ↔
    locOk x s ∧ t = { locStored x s (decResult (locValue x s) s.flags).1 with
      flags := (decResult (locValue x s) s.flags).2 } :=
  readModifyWrite_eq_next (g := fun v => (decResult v s.flags).1) (fl := fun v => (decResult v s.flags).2)

theorem opShift_eq_next {op : ShiftOp} {x : Loc8} {s t : State} : opShift op x s = .next t ↔
    locOk x s ∧ t = { locStored x s (shiftResult op (locValue x s) s.flags.c).1 with
      flags := shiftFlags (shiftResult op (locValue x s) s.flags.c).1 (shiftResult op (locValue x s) s.flags.c).2 } :=
  readModifyWrite_eq_next (g := fun v => (shiftResult op v s.flags.c).1)
    (fl := fun v => shiftFlags (shiftResult op v s.flags.c).1 (shiftResult op v s.flags.c).2)

theorem opBit_eq_next {b : Fin 8} {x : Loc8} {s t : State} : opBit b x s = .next t ↔
    locReadOk x s ∧ t = { locAfter x s with flags := bitFlags b (locValue x s) s.flags } := by
  unfold opBit
  constructor
  · intro h
    obtain ⟨r, hr, h⟩ := orFault_next h
    obtain ⟨h1, rfl⟩ := readLoc_eq_ok.1 hr
    cases h; exact ⟨h1, rfl⟩
  · rintro ⟨h, rfl⟩; rw [readLoc_eq_ok.2 ⟨h, rfl⟩]; rfl

/-- Read an operand and write a value back, no flag: the shape of RES and SET. -/
theorem readWrite_eq_next {x : Loc8} {s t : State} {g : Byte → Byte} :
    (orFault (readLoc s x) fun r => orFault (writeLoc r.2 x (g r.1)) .next) = .next t ↔
      locOk x s ∧ t = locStored x s (g (locValue x s)) := by
  constructor
  · intro h
    obtain ⟨r, hr, h⟩ := orFault_next h
    obtain ⟨h1, rfl⟩ := readLoc_eq_ok.1 hr
    obtain ⟨u, hu, h⟩ := orFault_next h
    obtain ⟨h2, rfl⟩ := writeLoc_eq_ok.1 hu
    cases h
    refine ⟨?_, rfl⟩
    cases x with
    | reg q => trivial
    | ind => exact ⟨h1, h2 rfl⟩
  · rintro ⟨h, rfl⟩
    have h1 : locReadOk x s := by cases x with | reg q => trivial | ind => exact h.1
    have h2 : x = .ind → s.cfg.faultInfo s.hl .write = none := by
      intro hx; subst hx; exact h.2
    rw [readLoc_eq_ok.2 ⟨h1, rfl⟩, orFault_ok, writeLoc_eq_ok.2 ⟨h2, rfl⟩, orFault_ok]

theorem opRes_eq_next {b : Fin 8} {x : Loc8} {s t : State} : opRes b x s = .next t ↔
    locOk x s ∧ t = locStored x s (resetBit b (locValue x s)) := readWrite_eq_next

theorem opSet_eq_next {b : Fin 8} {x : Loc8} {s t : State} : opSet b x s = .next t ↔
    locOk x s ∧ t = locStored x s (setBit b (locValue x s)) := readWrite_eq_next

theorem opCall_eq_next {w : Word} {s t : State} : opCall w s = .next t ↔
    ∃ u, push16 s s.pc = .ok u ∧ t = u.jump w := by
  unfold opCall
  constructor
  · intro h
    obtain ⟨r, hr, h⟩ := orFault_next h
    cases h; exact ⟨r, hr, rfl⟩
  · rintro ⟨r, hr, rfl⟩; rw [hr]; rfl

theorem opRst_eq_next {y : Fin 8} {s t : State} : opRst y s = .next t ↔
    ∃ u, push16 s s.pc = .ok u ∧ t = u.jump (rstTarget y) := by
  unfold opRst
  constructor
  · intro h
    obtain ⟨r, hr, h⟩ := orFault_next h
    cases h; exact ⟨r, hr, rfl⟩
  · rintro ⟨r, hr, rfl⟩; rw [hr]; rfl

theorem opRet_eq_next {s t : State} : opRet s = .next t ↔ ∃ r, pop16 s = .ok r ∧ t = r.2.jump r.1 := by
  unfold opRet
  constructor
  · intro h
    obtain ⟨r, hr, h⟩ := orFault_next h
    cases h; exact ⟨r, hr, rfl⟩
  · rintro ⟨r, hr, rfl⟩; rw [hr]; rfl

theorem opReti_eq_next {s t : State} : opReti s = .next t ↔
    ∃ r, pop16 s = .ok r ∧ t = { r.2.jump r.1 with ime := true, imePending := false } := by
  unfold opReti returnFromInterrupt
  constructor
  · intro h
    obtain ⟨r, hr, h⟩ := orFault_next h
    cases h; exact ⟨r, hr, rfl⟩
  · rintro ⟨r, hr, rfl⟩; rw [hr]; rfl

/-! ### Everything an instruction can do, by its form -/

/-- The state after a push in the terms of the stack operation. -/
theorem push16_ok_iff {s t : State} {v : Word} : push16 s v = .ok t ↔ s.pushOk ∧
    t = (({ s with sp := s.sp - 2#16 }).poke (s.sp - 2#16) (loByte v)).poke (s.sp - 2#16 + 1#16) (hiByte v) := by
  rw [push16_eq_ok, State.pushOk, and_assoc]

/-- The word and the state after a pop in the terms of the stack operation. -/
theorem pop16_ok_iff {s : State} {r : Word × State} : pop16 s = .ok r ↔ s.popOk ∧
    r = (mkWord ((s.afterRead s.sp).peek (s.sp + 1#16)) (s.peek s.sp), s.popped) := by
  rw [pop16_eq_ok, State.popOk, and_assoc]; rfl

/-- No data access of the form is refused. -/
def formOk (f : Form) (s : State) : Prop :=
  match f with
  | .ldRegInd _ => s.cfg.faultInfo s.hl .read = none
  | .ldIndReg _ | .ldIndImm _ => s.cfg.faultInfo s.hl .write = none
  | .ldAPtr p => s.cfg.faultInfo (s.ptrAddr p) .read = none
  | .ldPtrA p => s.cfg.faultInfo (s.ptrAddr p) .write = none
  | .ldAbsA w => s.cfg.faultInfo w .write = none
  | .ldAAbs w => s.cfg.faultInfo w .read = none
  | .ldhPageA n => s.cfg.faultInfo (highPage n) .write = none
  | .ldhAPage n => s.cfg.faultInfo (highPage n) .read = none
  | .ldhCA => s.cfg.faultInfo (highPage s.c) .write = none
  | .ldhAC => s.cfg.faultInfo (highPage s.c) .read = none
  | .ldAbsSP w => s.cfg.faultInfo w .write = none ∧ s.cfg.faultInfo (w + 1#16) .write = none
  | .push _ | .call _ | .rst _ => s.pushOk
  | .pop _ | .ret | .reti => s.popOk
  | .callCC cc _ => condHolds cc s.flags = true → s.pushOk
  | .retCC cc => condHolds cc s.flags = true → s.popOk
  | .alu _ src => srcOk src s
  | .inc8 x | .dec8 x | .shift _ x | .res _ x | .set _ x => locOk x s
  | .bit _ x => locReadOk x s
  | .illegal _ => False
  | _ => True

/-- The next state of a form whose accesses are not refused. -/
def formNext (f : Form) (s : State) : State :=
  let pushed (v : Word) : State :=
    (({ s with sp := s.sp - 2#16 }).poke (s.sp - 2#16) (loByte v)).poke (s.sp - 2#16 + 1#16) (hiByte v)
  let word : Word := mkWord ((s.afterRead s.sp).peek (s.sp + 1#16)) (s.peek s.sp)
  match f with
  | .ldRegReg dst src => s.setReg dst (s.getReg src)
  | .ldRegImm dst v => s.setReg dst v
  | .ldRegInd dst => (s.afterRead s.hl).setReg dst (s.peek s.hl)
  | .ldIndReg src => s.poke s.hl (s.getReg src)
  | .ldIndImm v => s.poke s.hl v
  | .ldAPtr p => { s.afterRead (s.ptrAddr p) with a := s.peek (s.ptrAddr p) }.ptrAdjust p
  | .ldPtrA p => (s.poke (s.ptrAddr p) s.a).ptrAdjust p
  | .ldAbsA w => s.poke w s.a
  | .ldAAbs w => { s.afterRead w with a := s.peek w }
  | .ldhPageA n => s.poke (highPage n) s.a
  | .ldhAPage n => { s.afterRead (highPage n) with a := s.peek (highPage n) }
  | .ldhCA => s.poke (highPage s.c) s.a
  | .ldhAC => { s.afterRead (highPage s.c) with a := s.peek (highPage s.c) }
  | .ldPairImm p w => s.setPair p w
  | .ldAbsSP w => (s.poke w (loByte s.sp)).poke (w + 1#16) (hiByte s.sp)
  | .ldSPHL => { s with sp := s.hl }
  | .push p => pushed (s.getStackPair p)
  | .pop p => s.popped.setStackPair p word
  | .ldHLSPOff e => { s.setHL (spAdd s.sp e).1 with flags := (spAdd s.sp e).2 }
  | .alu op src =>
    { srcAfter src s with a := (aluResult op s.a (srcValue src s) s.flags.c).1,
                          flags := (aluResult op s.a (srcValue src s) s.flags.c).2 }
  | .inc8 x =>
    { locStored x s (incResult (locValue x s) s.flags).1 with flags := (incResult (locValue x s) s.flags).2 }
  | .dec8 x =>
    { locStored x s (decResult (locValue x s) s.flags).1 with flags := (decResult (locValue x s) s.flags).2 }
  | .addHL p =>
    { s.setHL (addHLResult s.hl (s.getPair p) s.flags).1 with
      flags := (addHLResult s.hl (s.getPair p) s.flags).2 }
  | .inc16 p => s.setPair p (s.getPair p + 1#16)
  | .dec16 p => s.setPair p (s.getPair p - 1#16)
  | .addSPOff e => { s with sp := (spAdd s.sp e).1, flags := (spAdd s.sp e).2 }
  | .rlca =>
    { s with a := (shiftResult .rlc s.a s.flags.c).1, flags := accRotateFlags (shiftResult .rlc s.a s.flags.c).2 }
  | .rrca =>
    { s with a := (shiftResult .rrc s.a s.flags.c).1, flags := accRotateFlags (shiftResult .rrc s.a s.flags.c).2 }
  | .rla =>
    { s with a := (shiftResult .rl s.a s.flags.c).1, flags := accRotateFlags (shiftResult .rl s.a s.flags.c).2 }
  | .rra =>
    { s with a := (shiftResult .rr s.a s.flags.c).1, flags := accRotateFlags (shiftResult .rr s.a s.flags.c).2 }
  | .daa => { s with a := (daaResult s.a s.flags).1, flags := (daaResult s.a s.flags).2 }
  | .cpl => { s with a := ~~~s.a, flags := { s.flags with n := true, h := true } }
  | .scf => { s with flags := { s.flags with n := false, h := false, c := true } }
  | .ccf => { s with flags := { s.flags with n := false, h := false, c := !s.flags.c } }
  | .nop => s
  | .shift op x =>
    { locStored x s (shiftResult op (locValue x s) s.flags.c).1 with
      flags := shiftFlags (shiftResult op (locValue x s) s.flags.c).1 (shiftResult op (locValue x s) s.flags.c).2 }
  | .bit b x => { locAfter x s with flags := bitFlags b (locValue x s) s.flags }
  | .res b x => locStored x s (resetBit b (locValue x s))
  | .set b x => locStored x s (setBit b (locValue x s))
  | .jp w => s.jump w
  | .jpCC cc w => if condHolds cc s.flags then s.jump w else s
  | .jpHL => s.jump s.hl
  | .jr e => s.jump (s.pc + sext16 e)
  | .jrCC cc e => if condHolds cc s.flags then s.jump (s.pc + sext16 e) else s
  | .call w => (pushed s.pc).jump w
  | .callCC cc w => if condHolds cc s.flags then (pushed s.pc).jump w else s
  | .ret => s.popped.jump word
  | .retCC cc => if condHolds cc s.flags then s.popped.jump word else s
  | .reti => { s.popped.jump word with ime := true, imePending := false }
  | .rst y => (pushed s.pc).jump (rstTarget y)
  | .halt => { s with halted := true }
  | .stop => { s with stopped := true }
  | .di => { s with ime := false, imePending := false }
  | .ei => { s with imePending := true }
  | .illegal _ => s

theorem opCall_ok_iff {w : Word} {s t : State} : opCall w s = .next t ↔ s.pushOk ∧
    t = ((({ s with sp := s.sp - 2#16 }).poke (s.sp - 2#16) (loByte s.pc)).poke (s.sp - 2#16 + 1#16) (hiByte s.pc)).jump w := by
  rw [opCall_eq_next]
  constructor
  · rintro ⟨u, hu, rfl⟩; obtain ⟨h, rfl⟩ := push16_ok_iff.1 hu; exact ⟨h, rfl⟩
  · rintro ⟨h, rfl⟩; exact ⟨_, push16_ok_iff.2 ⟨h, rfl⟩, rfl⟩

theorem opRet_ok_iff {s t : State} : opRet s = .next t ↔ s.popOk ∧
    t = s.popped.jump (mkWord ((s.afterRead s.sp).peek (s.sp + 1#16)) (s.peek s.sp)) := by
  rw [opRet_eq_next]
  constructor
  · rintro ⟨u, hu, rfl⟩; obtain ⟨h, rfl⟩ := pop16_ok_iff.1 hu; exact ⟨h, rfl⟩
  · rintro ⟨h, rfl⟩; exact ⟨_, pop16_ok_iff.2 ⟨h, rfl⟩, rfl⟩

theorem opPop_ok_iff {p : StackPair} {s t : State} : opPop p s = .next t ↔ s.popOk ∧
    t = s.popped.setStackPair p (mkWord ((s.afterRead s.sp).peek (s.sp + 1#16)) (s.peek s.sp)) := by
  rw [opPop_eq_next]
  constructor
  · rintro ⟨u, hu, rfl⟩; obtain ⟨h, rfl⟩ := pop16_ok_iff.1 hu; exact ⟨h, rfl⟩
  · rintro ⟨h, rfl⟩; exact ⟨_, pop16_ok_iff.2 ⟨h, rfl⟩, rfl⟩

theorem opReti_ok_iff {s t : State} : opReti s = .next t ↔ s.popOk ∧
    t = { s.popped.jump (mkWord ((s.afterRead s.sp).peek (s.sp + 1#16)) (s.peek s.sp)) with
          ime := true, imePending := false } := by
  rw [opReti_eq_next]
  constructor
  · rintro ⟨u, hu, rfl⟩; obtain ⟨h, rfl⟩ := pop16_ok_iff.1 hu; exact ⟨h, rfl⟩
  · rintro ⟨h, rfl⟩; exact ⟨_, pop16_ok_iff.2 ⟨h, rfl⟩, rfl⟩

theorem opRst_ok_iff {y : Fin 8} {s t : State} : opRst y s = .next t ↔ s.pushOk ∧
    t = ((({ s with sp := s.sp - 2#16 }).poke (s.sp - 2#16) (loByte s.pc)).poke (s.sp - 2#16 + 1#16) (hiByte s.pc)).jump
      (rstTarget y) := by
  rw [opRst_eq_next]
  constructor
  · rintro ⟨u, hu, rfl⟩; obtain ⟨h, rfl⟩ := push16_ok_iff.1 hu; exact ⟨h, rfl⟩
  · rintro ⟨h, rfl⟩; exact ⟨_, push16_ok_iff.2 ⟨h, rfl⟩, rfl⟩

/-- A conditional transfer does what the transfer does, or nothing (R235). -/
theorem ite_eq_next {c : Bool} {o : Out} {s t u : State} {P : Prop} (h : o = .next t ↔ P ∧ t = u) :
    (if c then o else .next s) = .next t ↔ (c = true → P) ∧ t = if c then u else s := by
  cases c with
  | true => simpa using h
  | false => simp [eq_comm]

theorem next_eq_next {s t : State} : (Host.Outcome.next s : Out) = .next t ↔ True ∧ t = s := by
  simp [eq_comm]

theorem ite_next_eq_next {c : Bool} {s t u : State} :
    (if c then (Host.Outcome.next u : Out) else .next s) = .next t ↔ True ∧ t = if c then u else s := by
  cases c <;> simp [eq_comm]

/-- All a form can answer with a next state: that state, exactly when none of its accesses is refused. -/
theorem runForm_eq_next {f : Form} {s t : State} : runForm f s = .next t ↔ formOk f s ∧ t = formNext f s := by
  cases f with
  | ldRegInd dst => exact opLdRegInd_eq_next
  | ldIndReg src => exact opLdIndReg_eq_next
  | ldIndImm v => exact opLdIndImm_eq_next
  | ldAPtr p => exact opLdAPtr_eq_next
  | ldPtrA p => exact opLdPtrA_eq_next
  | ldAbsA w => exact opLdAbsA_eq_next
  | ldAAbs w => exact opLdAAbs_eq_next
  | ldhPageA n => exact opLdAbsA_eq_next
  | ldhAPage n => exact opLdAAbs_eq_next
  | ldhCA => exact opLdAbsA_eq_next
  | ldhAC => exact opLdAAbs_eq_next
  | ldAbsSP w => exact opLdAbsSP_eq_next.trans and_assoc.symm
  | push p => exact opPush_eq_next.trans push16_ok_iff
  | pop p => exact opPop_ok_iff
  | alu op src => exact opAlu_eq_next
  | inc8 x => exact opInc8_eq_next
  | dec8 x => exact opDec8_eq_next
  | shift op x => exact opShift_eq_next
  | bit b x => exact opBit_eq_next
  | res b x => exact opRes_eq_next
  | set b x => exact opSet_eq_next
  | jpCC cc w => exact ite_next_eq_next
  | jrCC cc e => exact ite_next_eq_next
  | call w => exact opCall_ok_iff
  | callCC cc w => exact ite_eq_next opCall_ok_iff
  | ret => exact opRet_ok_iff
  | retCC cc => exact ite_eq_next opRet_ok_iff
  | reti => exact opReti_ok_iff
  | rst y => exact opRst_ok_iff
  | illegal op => exact ⟨fun h => (by cases h), fun h => h.1.elim⟩
  | _ => exact next_eq_next

/-- All an instruction can answer with a next state. -/
theorem exec_eq_next {i : Instr} {s t : State} :
    exec i s = .next t ↔ formOk i.form s ∧ t = formNext i.form s := by
  rw [exec_eq_runForm, runForm_eq_next]

end Sys2Proof.Machine
end

