-- ==== Sys2Proof/Laws/Grid.lean ====
section
/-! SUPPORT. The opcode maps have an entry for every byte (30_encoding.md R81, R82), and decoding never runs short once
the operand bytes of the row are there (R87). -/

namespace Sys2Proof.Laws

/-- Sixteen rows of sixteen columns. -/
theorem primaryGrid_full : primaryGrid.length = 16 ∧ ∀ r ∈ primaryGrid, r.length = 16 := by
  refine ⟨rfl, ?_⟩
  intro r hr
  simp only [primaryGrid, List.mem_cons, List.not_mem_nil, or_false] at hr
  rcases hr with h | h | h | h | h | h | h | h | h | h | h | h | h | h | h | h <;> subst h <;> rfl

/-- Four groups of eight operations of eight operands. -/
theorem secondaryGrid_full :
    secondaryGrid.length = 4 ∧ ∀ g ∈ secondaryGrid, g.length = 8 ∧ ∀ r ∈ g, r.length = 8 := by decide

/-- The escape entry is at 0xCB only (R83). -/
theorem primaryRow_escape (op : Byte) : primaryRow op = .escape → op = 0xCB := by
  revert op
  have h : ∀ n : Fin 256, (match primaryRow (BitVec.ofFin n) with | .escape => true | _ => false) = true →
      BitVec.ofFin n = (0xCB : Byte) := by decide +kernel
  intro op hop
  have := h op.toFin
  simp only [show BitVec.ofFin op.toFin = op from rfl, hop] at this
  exact this trivial

/-- The escape byte selects the secondary map (R83). -/
theorem primaryRow_cb : primaryRow 0xCB = .escape := rfl

end Sys2Proof.Laws
end

