-- ==== Sys2Proof/Laws/PerInstr.lean ====
section
/-! SUPPORT. A law said of every constructor of `Instr`: the length of its encoding. -/

namespace Sys2Proof.Laws.EncodedLength

/-- The encoding of `i` is the opcode bytes of a key followed by as many operand bytes as that key's row has
(30_encoding.md R70). -/
def Statement (i : Instr) : Prop :=
  ∀ sl, ∃ k ops, encode sl i = Key.bytes k ++ ops ∧ ops.length = k.operandBytes sl

theorem nop : Statement .nop := fun _ => ⟨⟨.primary, 0x00⟩, [], rfl, rfl⟩
theorem ldBCImm (w : Word) : Statement (.ldBCImm w) := fun _ => ⟨⟨.primary, 0x01⟩, [loByte w, hiByte w], rfl, rfl⟩
theorem ldAtBCA : Statement .ldAtBCA := fun _ => ⟨⟨.primary, 0x02⟩, [], rfl, rfl⟩
theorem incBC : Statement .incBC := fun _ => ⟨⟨.primary, 0x03⟩, [], rfl, rfl⟩
theorem incB : Statement .incB := fun _ => ⟨⟨.primary, 0x04⟩, [], rfl, rfl⟩
theorem decB : Statement .decB := fun _ => ⟨⟨.primary, 0x05⟩, [], rfl, rfl⟩
theorem ldBImm (v : Byte) : Statement (.ldBImm v) := fun _ => ⟨⟨.primary, 0x06⟩, [v], rfl, rfl⟩
theorem rlca : Statement .rlca := fun _ => ⟨⟨.primary, 0x07⟩, [], rfl, rfl⟩
theorem ldAtAbsSP (w : Word) : Statement (.ldAtAbsSP w) := fun _ => ⟨⟨.primary, 0x08⟩, [loByte w, hiByte w], rfl, rfl⟩
theorem addHLBC : Statement .addHLBC := fun _ => ⟨⟨.primary, 0x09⟩, [], rfl, rfl⟩
theorem ldAAtBC : Statement .ldAAtBC := fun _ => ⟨⟨.primary, 0x0A⟩, [], rfl, rfl⟩
theorem decBC : Statement .decBC := fun _ => ⟨⟨.primary, 0x0B⟩, [], rfl, rfl⟩
theorem incC : Statement .incC := fun _ => ⟨⟨.primary, 0x0C⟩, [], rfl, rfl⟩
theorem decC : Statement .decC := fun _ => ⟨⟨.primary, 0x0D⟩, [], rfl, rfl⟩
theorem ldCImm (v : Byte) : Statement (.ldCImm v) := fun _ => ⟨⟨.primary, 0x0E⟩, [v], rfl, rfl⟩
theorem rrca : Statement .rrca := fun _ => ⟨⟨.primary, 0x0F⟩, [], rfl, rfl⟩
theorem stop : Statement .stop
  | .one => ⟨⟨.primary, 0x10⟩, [], rfl, rfl⟩
  | .two => ⟨⟨.primary, 0x10⟩, [0], rfl, rfl⟩
theorem ldDEImm (w : Word) : Statement (.ldDEImm w) := fun _ => ⟨⟨.primary, 0x11⟩, [loByte w, hiByte w], rfl, rfl⟩
theorem ldAtDEA : Statement .ldAtDEA := fun _ => ⟨⟨.primary, 0x12⟩, [], rfl, rfl⟩
theorem incDE : Statement .incDE := fun _ => ⟨⟨.primary, 0x13⟩, [], rfl, rfl⟩
theorem incD : Statement .incD := fun _ => ⟨⟨.primary, 0x14⟩, [], rfl, rfl⟩
theorem decD : Statement .decD := fun _ => ⟨⟨.primary, 0x15⟩, [], rfl, rfl⟩
theorem ldDImm (v : Byte) : Statement (.ldDImm v) := fun _ => ⟨⟨.primary, 0x16⟩, [v], rfl, rfl⟩
theorem rla : Statement .rla := fun _ => ⟨⟨.primary, 0x17⟩, [], rfl, rfl⟩
theorem jr (e : Byte) : Statement (.jr e) := fun _ => ⟨⟨.primary, 0x18⟩, [e], rfl, rfl⟩
theorem addHLDE : Statement .addHLDE := fun _ => ⟨⟨.primary, 0x19⟩, [], rfl, rfl⟩
theorem ldAAtDE : Statement .ldAAtDE := fun _ => ⟨⟨.primary, 0x1A⟩, [], rfl, rfl⟩
theorem decDE : Statement .decDE := fun _ => ⟨⟨.primary, 0x1B⟩, [], rfl, rfl⟩
theorem incE : Statement .incE := fun _ => ⟨⟨.primary, 0x1C⟩, [], rfl, rfl⟩
theorem decE : Statement .decE := fun _ => ⟨⟨.primary, 0x1D⟩, [], rfl, rfl⟩
theorem ldEImm (v : Byte) : Statement (.ldEImm v) := fun _ => ⟨⟨.primary, 0x1E⟩, [v], rfl, rfl⟩
theorem rra : Statement .rra := fun _ => ⟨⟨.primary, 0x1F⟩, [], rfl, rfl⟩
theorem jrNZ (e : Byte) : Statement (.jrNZ e) := fun _ => ⟨⟨.primary, 0x20⟩, [e], rfl, rfl⟩
theorem ldHLImm (w : Word) : Statement (.ldHLImm w) := fun _ => ⟨⟨.primary, 0x21⟩, [loByte w, hiByte w], rfl, rfl⟩
theorem ldAtHLIncA : Statement .ldAtHLIncA := fun _ => ⟨⟨.primary, 0x22⟩, [], rfl, rfl⟩
theorem incHL : Statement .incHL := fun _ => ⟨⟨.primary, 0x23⟩, [], rfl, rfl⟩
theorem incH : Statement .incH := fun _ => ⟨⟨.primary, 0x24⟩, [], rfl, rfl⟩
theorem decH : Statement .decH := fun _ => ⟨⟨.primary, 0x25⟩, [], rfl, rfl⟩
theorem ldHImm (v : Byte) : Statement (.ldHImm v) := fun _ => ⟨⟨.primary, 0x26⟩, [v], rfl, rfl⟩
theorem daa : Statement .daa := fun _ => ⟨⟨.primary, 0x27⟩, [], rfl, rfl⟩
theorem jrZ (e : Byte) : Statement (.jrZ e) := fun _ => ⟨⟨.primary, 0x28⟩, [e], rfl, rfl⟩
theorem addHLHL : Statement .addHLHL := fun _ => ⟨⟨.primary, 0x29⟩, [], rfl, rfl⟩
theorem ldAAtHLInc : Statement .ldAAtHLInc := fun _ => ⟨⟨.primary, 0x2A⟩, [], rfl, rfl⟩
theorem decHL : Statement .decHL := fun _ => ⟨⟨.primary, 0x2B⟩, [], rfl, rfl⟩
theorem incL : Statement .incL := fun _ => ⟨⟨.primary, 0x2C⟩, [], rfl, rfl⟩
theorem decL : Statement .decL := fun _ => ⟨⟨.primary, 0x2D⟩, [], rfl, rfl⟩
theorem ldLImm (v : Byte) : Statement (.ldLImm v) := fun _ => ⟨⟨.primary, 0x2E⟩, [v], rfl, rfl⟩
theorem cpl : Statement .cpl := fun _ => ⟨⟨.primary, 0x2F⟩, [], rfl, rfl⟩
theorem jrNC (e : Byte) : Statement (.jrNC e) := fun _ => ⟨⟨.primary, 0x30⟩, [e], rfl, rfl⟩
theorem ldSPImm (w : Word) : Statement (.ldSPImm w) := fun _ => ⟨⟨.primary, 0x31⟩, [loByte w, hiByte w], rfl, rfl⟩
theorem ldAtHLDecA : Statement .ldAtHLDecA := fun _ => ⟨⟨.primary, 0x32⟩, [], rfl, rfl⟩
theorem incSP : Statement .incSP := fun _ => ⟨⟨.primary, 0x33⟩, [], rfl, rfl⟩
theorem incAtHL : Statement .incAtHL := fun _ => ⟨⟨.primary, 0x34⟩, [], rfl, rfl⟩
theorem decAtHL : Statement .decAtHL := fun _ => ⟨⟨.primary, 0x35⟩, [], rfl, rfl⟩
theorem ldAtHLImm (v : Byte) : Statement (.ldAtHLImm v) := fun _ => ⟨⟨.primary, 0x36⟩, [v], rfl, rfl⟩
theorem scf : Statement .scf := fun _ => ⟨⟨.primary, 0x37⟩, [], rfl, rfl⟩
theorem jrC (e : Byte) : Statement (.jrC e) := fun _ => ⟨⟨.primary, 0x38⟩, [e], rfl, rfl⟩
theorem addHLSP : Statement .addHLSP := fun _ => ⟨⟨.primary, 0x39⟩, [], rfl, rfl⟩
theorem ldAAtHLDec : Statement .ldAAtHLDec := fun _ => ⟨⟨.primary, 0x3A⟩, [], rfl, rfl⟩
theorem decSP : Statement .decSP := fun _ => ⟨⟨.primary, 0x3B⟩, [], rfl, rfl⟩
theorem incA : Statement .incA := fun _ => ⟨⟨.primary, 0x3C⟩, [], rfl, rfl⟩
theorem decA : Statement .decA := fun _ => ⟨⟨.primary, 0x3D⟩, [], rfl, rfl⟩
theorem ldAImm (v : Byte) : Statement (.ldAImm v) := fun _ => ⟨⟨.primary, 0x3E⟩, [v], rfl, rfl⟩
theorem ccf : Statement .ccf := fun _ => ⟨⟨.primary, 0x3F⟩, [], rfl, rfl⟩
theorem ldBB : Statement .ldBB := fun _ => ⟨⟨.primary, 0x40⟩, [], rfl, rfl⟩
theorem ldBC : Statement .ldBC := fun _ => ⟨⟨.primary, 0x41⟩, [], rfl, rfl⟩
theorem ldBD : Statement .ldBD := fun _ => ⟨⟨.primary, 0x42⟩, [], rfl, rfl⟩
theorem ldBE : Statement .ldBE := fun _ => ⟨⟨.primary, 0x43⟩, [], rfl, rfl⟩
theorem ldBH : Statement .ldBH := fun _ => ⟨⟨.primary, 0x44⟩, [], rfl, rfl⟩
theorem ldBL : Statement .ldBL := fun _ => ⟨⟨.primary, 0x45⟩, [], rfl, rfl⟩
theorem ldBAtHL : Statement .ldBAtHL := fun _ => ⟨⟨.primary, 0x46⟩, [], rfl, rfl⟩
theorem ldBA : Statement .ldBA := fun _ => ⟨⟨.primary, 0x47⟩, [], rfl, rfl⟩
theorem ldCB : Statement .ldCB := fun _ => ⟨⟨.primary, 0x48⟩, [], rfl, rfl⟩
theorem ldCC : Statement .ldCC := fun _ => ⟨⟨.primary, 0x49⟩, [], rfl, rfl⟩
theorem ldCD : Statement .ldCD := fun _ => ⟨⟨.primary, 0x4A⟩, [], rfl, rfl⟩
theorem ldCE : Statement .ldCE := fun _ => ⟨⟨.primary, 0x4B⟩, [], rfl, rfl⟩
theorem ldCH : Statement .ldCH := fun _ => ⟨⟨.primary, 0x4C⟩, [], rfl, rfl⟩
theorem ldCL : Statement .ldCL := fun _ => ⟨⟨.primary, 0x4D⟩, [], rfl, rfl⟩
theorem ldCAtHL : Statement .ldCAtHL := fun _ => ⟨⟨.primary, 0x4E⟩, [], rfl, rfl⟩
theorem ldCA : Statement .ldCA := fun _ => ⟨⟨.primary, 0x4F⟩, [], rfl, rfl⟩
theorem ldDB : Statement .ldDB := fun _ => ⟨⟨.primary, 0x50⟩, [], rfl, rfl⟩
theorem ldDC : Statement .ldDC := fun _ => ⟨⟨.primary, 0x51⟩, [], rfl, rfl⟩
theorem ldDD : Statement .ldDD := fun _ => ⟨⟨.primary, 0x52⟩, [], rfl, rfl⟩
theorem ldDE : Statement .ldDE := fun _ => ⟨⟨.primary, 0x53⟩, [], rfl, rfl⟩
theorem ldDH : Statement .ldDH := fun _ => ⟨⟨.primary, 0x54⟩, [], rfl, rfl⟩
theorem ldDL : Statement .ldDL := fun _ => ⟨⟨.primary, 0x55⟩, [], rfl, rfl⟩
theorem ldDAtHL : Statement .ldDAtHL := fun _ => ⟨⟨.primary, 0x56⟩, [], rfl, rfl⟩
theorem ldDA : Statement .ldDA := fun _ => ⟨⟨.primary, 0x57⟩, [], rfl, rfl⟩
theorem ldEB : Statement .ldEB := fun _ => ⟨⟨.primary, 0x58⟩, [], rfl, rfl⟩
theorem ldEC : Statement .ldEC := fun _ => ⟨⟨.primary, 0x59⟩, [], rfl, rfl⟩
theorem ldED : Statement .ldED := fun _ => ⟨⟨.primary, 0x5A⟩, [], rfl, rfl⟩
theorem ldEE : Statement .ldEE := fun _ => ⟨⟨.primary, 0x5B⟩, [], rfl, rfl⟩
theorem ldEH : Statement .ldEH := fun _ => ⟨⟨.primary, 0x5C⟩, [], rfl, rfl⟩
theorem ldEL : Statement .ldEL := fun _ => ⟨⟨.primary, 0x5D⟩, [], rfl, rfl⟩
theorem ldEAtHL : Statement .ldEAtHL := fun _ => ⟨⟨.primary, 0x5E⟩, [], rfl, rfl⟩
theorem ldEA : Statement .ldEA := fun _ => ⟨⟨.primary, 0x5F⟩, [], rfl, rfl⟩
theorem ldHB : Statement .ldHB := fun _ => ⟨⟨.primary, 0x60⟩, [], rfl, rfl⟩
theorem ldHC : Statement .ldHC := fun _ => ⟨⟨.primary, 0x61⟩, [], rfl, rfl⟩
theorem ldHD : Statement .ldHD := fun _ => ⟨⟨.primary, 0x62⟩, [], rfl, rfl⟩
theorem ldHE : Statement .ldHE := fun _ => ⟨⟨.primary, 0x63⟩, [], rfl, rfl⟩
theorem ldHH : Statement .ldHH := fun _ => ⟨⟨.primary, 0x64⟩, [], rfl, rfl⟩
theorem ldHL : Statement .ldHL := fun _ => ⟨⟨.primary, 0x65⟩, [], rfl, rfl⟩
theorem ldHAtHL : Statement .ldHAtHL := fun _ => ⟨⟨.primary, 0x66⟩, [], rfl, rfl⟩
theorem ldHA : Statement .ldHA := fun _ => ⟨⟨.primary, 0x67⟩, [], rfl, rfl⟩
theorem ldLB : Statement .ldLB := fun _ => ⟨⟨.primary, 0x68⟩, [], rfl, rfl⟩
theorem ldLC : Statement .ldLC := fun _ => ⟨⟨.primary, 0x69⟩, [], rfl, rfl⟩
theorem ldLD : Statement .ldLD := fun _ => ⟨⟨.primary, 0x6A⟩, [], rfl, rfl⟩
theorem ldLE : Statement .ldLE := fun _ => ⟨⟨.primary, 0x6B⟩, [], rfl, rfl⟩
theorem ldLH : Statement .ldLH := fun _ => ⟨⟨.primary, 0x6C⟩, [], rfl, rfl⟩
theorem ldLL : Statement .ldLL := fun _ => ⟨⟨.primary, 0x6D⟩, [], rfl, rfl⟩
theorem ldLAtHL : Statement .ldLAtHL := fun _ => ⟨⟨.primary, 0x6E⟩, [], rfl, rfl⟩
theorem ldLA : Statement .ldLA := fun _ => ⟨⟨.primary, 0x6F⟩, [], rfl, rfl⟩
theorem ldAtHLB : Statement .ldAtHLB := fun _ => ⟨⟨.primary, 0x70⟩, [], rfl, rfl⟩
theorem ldAtHLC : Statement .ldAtHLC := fun _ => ⟨⟨.primary, 0x71⟩, [], rfl, rfl⟩
theorem ldAtHLD : Statement .ldAtHLD := fun _ => ⟨⟨.primary, 0x72⟩, [], rfl, rfl⟩
theorem ldAtHLE : Statement .ldAtHLE := fun _ => ⟨⟨.primary, 0x73⟩, [], rfl, rfl⟩
theorem ldAtHLH : Statement .ldAtHLH := fun _ => ⟨⟨.primary, 0x74⟩, [], rfl, rfl⟩
theorem ldAtHLL : Statement .ldAtHLL := fun _ => ⟨⟨.primary, 0x75⟩, [], rfl, rfl⟩
theorem halt : Statement .halt := fun _ => ⟨⟨.primary, 0x76⟩, [], rfl, rfl⟩
theorem ldAtHLA : Statement .ldAtHLA := fun _ => ⟨⟨.primary, 0x77⟩, [], rfl, rfl⟩
theorem ldAB : Statement .ldAB := fun _ => ⟨⟨.primary, 0x78⟩, [], rfl, rfl⟩
theorem ldAC : Statement .ldAC := fun _ => ⟨⟨.primary, 0x79⟩, [], rfl, rfl⟩
theorem ldAD : Statement .ldAD := fun _ => ⟨⟨.primary, 0x7A⟩, [], rfl, rfl⟩
theorem ldAE : Statement .ldAE := fun _ => ⟨⟨.primary, 0x7B⟩, [], rfl, rfl⟩
theorem ldAH : Statement .ldAH := fun _ => ⟨⟨.primary, 0x7C⟩, [], rfl, rfl⟩
theorem ldAL : Statement .ldAL := fun _ => ⟨⟨.primary, 0x7D⟩, [], rfl, rfl⟩
theorem ldAAtHL : Statement .ldAAtHL := fun _ => ⟨⟨.primary, 0x7E⟩, [], rfl, rfl⟩
theorem ldAA : Statement .ldAA := fun _ => ⟨⟨.primary, 0x7F⟩, [], rfl, rfl⟩
theorem addAB : Statement .addAB := fun _ => ⟨⟨.primary, 0x80⟩, [], rfl, rfl⟩
theorem addAC : Statement .addAC := fun _ => ⟨⟨.primary, 0x81⟩, [], rfl, rfl⟩
theorem addAD : Statement .addAD := fun _ => ⟨⟨.primary, 0x82⟩, [], rfl, rfl⟩
theorem addAE : Statement .addAE := fun _ => ⟨⟨.primary, 0x83⟩, [], rfl, rfl⟩
theorem addAH : Statement .addAH := fun _ => ⟨⟨.primary, 0x84⟩, [], rfl, rfl⟩
theorem addAL : Statement .addAL := fun _ => ⟨⟨.primary, 0x85⟩, [], rfl, rfl⟩
theorem addAAtHL : Statement .addAAtHL := fun _ => ⟨⟨.primary, 0x86⟩, [], rfl, rfl⟩
theorem addAA : Statement .addAA := fun _ => ⟨⟨.primary, 0x87⟩, [], rfl, rfl⟩
theorem adcAB : Statement .adcAB := fun _ => ⟨⟨.primary, 0x88⟩, [], rfl, rfl⟩
theorem adcAC : Statement .adcAC := fun _ => ⟨⟨.primary, 0x89⟩, [], rfl, rfl⟩
theorem adcAD : Statement .adcAD := fun _ => ⟨⟨.primary, 0x8A⟩, [], rfl, rfl⟩
theorem adcAE : Statement .adcAE := fun _ => ⟨⟨.primary, 0x8B⟩, [], rfl, rfl⟩
theorem adcAH : Statement .adcAH := fun _ => ⟨⟨.primary, 0x8C⟩, [], rfl, rfl⟩
theorem adcAL : Statement .adcAL := fun _ => ⟨⟨.primary, 0x8D⟩, [], rfl, rfl⟩
theorem adcAAtHL : Statement .adcAAtHL := fun _ => ⟨⟨.primary, 0x8E⟩, [], rfl, rfl⟩
theorem adcAA : Statement .adcAA := fun _ => ⟨⟨.primary, 0x8F⟩, [], rfl, rfl⟩
theorem subB : Statement .subB := fun _ => ⟨⟨.primary, 0x90⟩, [], rfl, rfl⟩
theorem subC : Statement .subC := fun _ => ⟨⟨.primary, 0x91⟩, [], rfl, rfl⟩
theorem subD : Statement .subD := fun _ => ⟨⟨.primary, 0x92⟩, [], rfl, rfl⟩
theorem subE : Statement .subE := fun _ => ⟨⟨.primary, 0x93⟩, [], rfl, rfl⟩
theorem subH : Statement .subH := fun _ => ⟨⟨.primary, 0x94⟩, [], rfl, rfl⟩
theorem subL : Statement .subL := fun _ => ⟨⟨.primary, 0x95⟩, [], rfl, rfl⟩
theorem subAtHL : Statement .subAtHL := fun _ => ⟨⟨.primary, 0x96⟩, [], rfl, rfl⟩
theorem subA : Statement .subA := fun _ => ⟨⟨.primary, 0x97⟩, [], rfl, rfl⟩
theorem sbcAB : Statement .sbcAB := fun _ => ⟨⟨.primary, 0x98⟩, [], rfl, rfl⟩
theorem sbcAC : Statement .sbcAC := fun _ => ⟨⟨.primary, 0x99⟩, [], rfl, rfl⟩
theorem sbcAD : Statement .sbcAD := fun _ => ⟨⟨.primary, 0x9A⟩, [], rfl, rfl⟩
theorem sbcAE : Statement .sbcAE := fun _ => ⟨⟨.primary, 0x9B⟩, [], rfl, rfl⟩
theorem sbcAH : Statement .sbcAH := fun _ => ⟨⟨.primary, 0x9C⟩, [], rfl, rfl⟩
theorem sbcAL : Statement .sbcAL := fun _ => ⟨⟨.primary, 0x9D⟩, [], rfl, rfl⟩
theorem sbcAAtHL : Statement .sbcAAtHL := fun _ => ⟨⟨.primary, 0x9E⟩, [], rfl, rfl⟩
theorem sbcAA : Statement .sbcAA := fun _ => ⟨⟨.primary, 0x9F⟩, [], rfl, rfl⟩
theorem andB : Statement .andB := fun _ => ⟨⟨.primary, 0xA0⟩, [], rfl, rfl⟩
theorem andC : Statement .andC := fun _ => ⟨⟨.primary, 0xA1⟩, [], rfl, rfl⟩
theorem andD : Statement .andD := fun _ => ⟨⟨.primary, 0xA2⟩, [], rfl, rfl⟩
theorem andE : Statement .andE := fun _ => ⟨⟨.primary, 0xA3⟩, [], rfl, rfl⟩
theorem andH : Statement .andH := fun _ => ⟨⟨.primary, 0xA4⟩, [], rfl, rfl⟩
theorem andL : Statement .andL := fun _ => ⟨⟨.primary, 0xA5⟩, [], rfl, rfl⟩
theorem andAtHL : Statement .andAtHL := fun _ => ⟨⟨.primary, 0xA6⟩, [], rfl, rfl⟩
theorem andA : Statement .andA := fun _ => ⟨⟨.primary, 0xA7⟩, [], rfl, rfl⟩
theorem xorB : Statement .xorB := fun _ => ⟨⟨.primary, 0xA8⟩, [], rfl, rfl⟩
theorem xorC : Statement .xorC := fun _ => ⟨⟨.primary, 0xA9⟩, [], rfl, rfl⟩
theorem xorD : Statement .xorD := fun _ => ⟨⟨.primary, 0xAA⟩, [], rfl, rfl⟩
theorem xorE : Statement .xorE := fun _ => ⟨⟨.primary, 0xAB⟩, [], rfl, rfl⟩
theorem xorH : Statement .xorH := fun _ => ⟨⟨.primary, 0xAC⟩, [], rfl, rfl⟩
theorem xorL : Statement .xorL := fun _ => ⟨⟨.primary, 0xAD⟩, [], rfl, rfl⟩
theorem xorAtHL : Statement .xorAtHL := fun _ => ⟨⟨.primary, 0xAE⟩, [], rfl, rfl⟩
theorem xorA : Statement .xorA := fun _ => ⟨⟨.primary, 0xAF⟩, [], rfl, rfl⟩
theorem orB : Statement .orB := fun _ => ⟨⟨.primary, 0xB0⟩, [], rfl, rfl⟩
theorem orC : Statement .orC := fun _ => ⟨⟨.primary, 0xB1⟩, [], rfl, rfl⟩
theorem orD : Statement .orD := fun _ => ⟨⟨.primary, 0xB2⟩, [], rfl, rfl⟩
theorem orE : Statement .orE := fun _ => ⟨⟨.primary, 0xB3⟩, [], rfl, rfl⟩
theorem orH : Statement .orH := fun _ => ⟨⟨.primary, 0xB4⟩, [], rfl, rfl⟩
theorem orL : Statement .orL := fun _ => ⟨⟨.primary, 0xB5⟩, [], rfl, rfl⟩
theorem orAtHL : Statement .orAtHL := fun _ => ⟨⟨.primary, 0xB6⟩, [], rfl, rfl⟩
theorem orA : Statement .orA := fun _ => ⟨⟨.primary, 0xB7⟩, [], rfl, rfl⟩
theorem cpB : Statement .cpB := fun _ => ⟨⟨.primary, 0xB8⟩, [], rfl, rfl⟩
theorem cpC : Statement .cpC := fun _ => ⟨⟨.primary, 0xB9⟩, [], rfl, rfl⟩
theorem cpD : Statement .cpD := fun _ => ⟨⟨.primary, 0xBA⟩, [], rfl, rfl⟩
theorem cpE : Statement .cpE := fun _ => ⟨⟨.primary, 0xBB⟩, [], rfl, rfl⟩
theorem cpH : Statement .cpH := fun _ => ⟨⟨.primary, 0xBC⟩, [], rfl, rfl⟩
theorem cpL : Statement .cpL := fun _ => ⟨⟨.primary, 0xBD⟩, [], rfl, rfl⟩
theorem cpAtHL : Statement .cpAtHL := fun _ => ⟨⟨.primary, 0xBE⟩, [], rfl, rfl⟩
theorem cpA : Statement .cpA := fun _ => ⟨⟨.primary, 0xBF⟩, [], rfl, rfl⟩
theorem retNZ : Statement .retNZ := fun _ => ⟨⟨.primary, 0xC0⟩, [], rfl, rfl⟩
theorem popBC : Statement .popBC := fun _ => ⟨⟨.primary, 0xC1⟩, [], rfl, rfl⟩
theorem jpNZ (w : Word) : Statement (.jpNZ w) := fun _ => ⟨⟨.primary, 0xC2⟩, [loByte w, hiByte w], rfl, rfl⟩
theorem jp (w : Word) : Statement (.jp w) := fun _ => ⟨⟨.primary, 0xC3⟩, [loByte w, hiByte w], rfl, rfl⟩
theorem callNZ (w : Word) : Statement (.callNZ w) := fun _ => ⟨⟨.primary, 0xC4⟩, [loByte w, hiByte w], rfl, rfl⟩
theorem pushBC : Statement .pushBC := fun _ => ⟨⟨.primary, 0xC5⟩, [], rfl, rfl⟩
theorem addAImm (v : Byte) : Statement (.addAImm v) := fun _ => ⟨⟨.primary, 0xC6⟩, [v], rfl, rfl⟩
theorem rst00 : Statement .rst00 := fun _ => ⟨⟨.primary, 0xC7⟩, [], rfl, rfl⟩
theorem retZ : Statement .retZ := fun _ => ⟨⟨.primary, 0xC8⟩, [], rfl, rfl⟩
theorem ret : Statement .ret := fun _ => ⟨⟨.primary, 0xC9⟩, [], rfl, rfl⟩
theorem jpZ (w : Word) : Statement (.jpZ w) := fun _ => ⟨⟨.primary, 0xCA⟩, [loByte w, hiByte w], rfl, rfl⟩
theorem callZ (w : Word) : Statement (.callZ w) := fun _ => ⟨⟨.primary, 0xCC⟩, [loByte w, hiByte w], rfl, rfl⟩
theorem call (w : Word) : Statement (.call w) := fun _ => ⟨⟨.primary, 0xCD⟩, [loByte w, hiByte w], rfl, rfl⟩
theorem adcAImm (v : Byte) : Statement (.adcAImm v) := fun _ => ⟨⟨.primary, 0xCE⟩, [v], rfl, rfl⟩
theorem rst08 : Statement .rst08 := fun _ => ⟨⟨.primary, 0xCF⟩, [], rfl, rfl⟩
theorem retNC : Statement .retNC := fun _ => ⟨⟨.primary, 0xD0⟩, [], rfl, rfl⟩
theorem popDE : Statement .popDE := fun _ => ⟨⟨.primary, 0xD1⟩, [], rfl, rfl⟩
theorem jpNC (w : Word) : Statement (.jpNC w) := fun _ => ⟨⟨.primary, 0xD2⟩, [loByte w, hiByte w], rfl, rfl⟩
theorem illegalD3 : Statement .illegalD3 := fun _ => ⟨⟨.primary, 0xD3⟩, [], rfl, rfl⟩
theorem callNC (w : Word) : Statement (.callNC w) := fun _ => ⟨⟨.primary, 0xD4⟩, [loByte w, hiByte w], rfl, rfl⟩
theorem pushDE : Statement .pushDE := fun _ => ⟨⟨.primary, 0xD5⟩, [], rfl, rfl⟩
theorem subImm (v : Byte) : Statement (.subImm v) := fun _ => ⟨⟨.primary, 0xD6⟩, [v], rfl, rfl⟩
theorem rst10 : Statement .rst10 := fun _ => ⟨⟨.primary, 0xD7⟩, [], rfl, rfl⟩
theorem retC : Statement .retC := fun _ => ⟨⟨.primary, 0xD8⟩, [], rfl, rfl⟩
theorem reti : Statement .reti := fun _ => ⟨⟨.primary, 0xD9⟩, [], rfl, rfl⟩
theorem jpC (w : Word) : Statement (.jpC w) := fun _ => ⟨⟨.primary, 0xDA⟩, [loByte w, hiByte w], rfl, rfl⟩
theorem illegalDB : Statement .illegalDB := fun _ => ⟨⟨.primary, 0xDB⟩, [], rfl, rfl⟩
theorem callC (w : Word) : Statement (.callC w) := fun _ => ⟨⟨.primary, 0xDC⟩, [loByte w, hiByte w], rfl, rfl⟩
theorem illegalDD : Statement .illegalDD := fun _ => ⟨⟨.primary, 0xDD⟩, [], rfl, rfl⟩
theorem sbcAImm (v : Byte) : Statement (.sbcAImm v) := fun _ => ⟨⟨.primary, 0xDE⟩, [v], rfl, rfl⟩
theorem rst18 : Statement .rst18 := fun _ => ⟨⟨.primary, 0xDF⟩, [], rfl, rfl⟩
theorem ldhAtPageA (n : Byte) : Statement (.ldhAtPageA n) := fun _ => ⟨⟨.primary, 0xE0⟩, [n], rfl, rfl⟩
theorem popHL : Statement .popHL := fun _ => ⟨⟨.primary, 0xE1⟩, [], rfl, rfl⟩
theorem ldAtCA : Statement .ldAtCA := fun _ => ⟨⟨.primary, 0xE2⟩, [], rfl, rfl⟩
theorem illegalE3 : Statement .illegalE3 := fun _ => ⟨⟨.primary, 0xE3⟩, [], rfl, rfl⟩
theorem illegalE4 : Statement .illegalE4 := fun _ => ⟨⟨.primary, 0xE4⟩, [], rfl, rfl⟩
theorem pushHL : Statement .pushHL := fun _ => ⟨⟨.primary, 0xE5⟩, [], rfl, rfl⟩
theorem andImm (v : Byte) : Statement (.andImm v) := fun _ => ⟨⟨.primary, 0xE6⟩, [v], rfl, rfl⟩
theorem rst20 : Statement .rst20 := fun _ => ⟨⟨.primary, 0xE7⟩, [], rfl, rfl⟩
theorem addSPOff (e : Byte) : Statement (.addSPOff e) := fun _ => ⟨⟨.primary, 0xE8⟩, [e], rfl, rfl⟩
theorem jpHL : Statement .jpHL := fun _ => ⟨⟨.primary, 0xE9⟩, [], rfl, rfl⟩
theorem ldAtAbsA (w : Word) : Statement (.ldAtAbsA w) := fun _ => ⟨⟨.primary, 0xEA⟩, [loByte w, hiByte w], rfl, rfl⟩
theorem illegalEB : Statement .illegalEB := fun _ => ⟨⟨.primary, 0xEB⟩, [], rfl, rfl⟩
theorem illegalEC : Statement .illegalEC := fun _ => ⟨⟨.primary, 0xEC⟩, [], rfl, rfl⟩
theorem illegalED : Statement .illegalED := fun _ => ⟨⟨.primary, 0xED⟩, [], rfl, rfl⟩
theorem xorImm (v : Byte) : Statement (.xorImm v) := fun _ => ⟨⟨.primary, 0xEE⟩, [v], rfl, rfl⟩
theorem rst28 : Statement .rst28 := fun _ => ⟨⟨.primary, 0xEF⟩, [], rfl, rfl⟩
theorem ldhAAtPage (n : Byte) : Statement (.ldhAAtPage n) := fun _ => ⟨⟨.primary, 0xF0⟩, [n], rfl, rfl⟩
theorem popAF : Statement .popAF := fun _ => ⟨⟨.primary, 0xF1⟩, [], rfl, rfl⟩
theorem ldAAtC : Statement .ldAAtC := fun _ => ⟨⟨.primary, 0xF2⟩, [], rfl, rfl⟩
theorem di : Statement .di := fun _ => ⟨⟨.primary, 0xF3⟩, [], rfl, rfl⟩
theorem illegalF4 : Statement .illegalF4 := fun _ => ⟨⟨.primary, 0xF4⟩, [], rfl, rfl⟩
theorem pushAF : Statement .pushAF := fun _ => ⟨⟨.primary, 0xF5⟩, [], rfl, rfl⟩
theorem orImm (v : Byte) : Statement (.orImm v) := fun _ => ⟨⟨.primary, 0xF6⟩, [v], rfl, rfl⟩
theorem rst30 : Statement .rst30 := fun _ => ⟨⟨.primary, 0xF7⟩, [], rfl, rfl⟩
theorem ldHLSPOff (e : Byte) : Statement (.ldHLSPOff e) := fun _ => ⟨⟨.primary, 0xF8⟩, [e], rfl, rfl⟩
theorem ldSPHL : Statement .ldSPHL := fun _ => ⟨⟨.primary, 0xF9⟩, [], rfl, rfl⟩
theorem ldAAtAbs (w : Word) : Statement (.ldAAtAbs w) := fun _ => ⟨⟨.primary, 0xFA⟩, [loByte w, hiByte w], rfl, rfl⟩
theorem ei : Statement .ei := fun _ => ⟨⟨.primary, 0xFB⟩, [], rfl, rfl⟩
theorem illegalFC : Statement .illegalFC := fun _ => ⟨⟨.primary, 0xFC⟩, [], rfl, rfl⟩
theorem illegalFD : Statement .illegalFD := fun _ => ⟨⟨.primary, 0xFD⟩, [], rfl, rfl⟩
theorem cpImm (v : Byte) : Statement (.cpImm v) := fun _ => ⟨⟨.primary, 0xFE⟩, [v], rfl, rfl⟩
theorem rst38 : Statement .rst38 := fun _ => ⟨⟨.primary, 0xFF⟩, [], rfl, rfl⟩
theorem rlcB : Statement .rlcB := fun _ => ⟨⟨.secondary, 0x00⟩, [], rfl, rfl⟩
theorem rlcC : Statement .rlcC := fun _ => ⟨⟨.secondary, 0x01⟩, [], rfl, rfl⟩
theorem rlcD : Statement .rlcD := fun _ => ⟨⟨.secondary, 0x02⟩, [], rfl, rfl⟩
theorem rlcE : Statement .rlcE := fun _ => ⟨⟨.secondary, 0x03⟩, [], rfl, rfl⟩
theorem rlcH : Statement .rlcH := fun _ => ⟨⟨.secondary, 0x04⟩, [], rfl, rfl⟩
theorem rlcL : Statement .rlcL := fun _ => ⟨⟨.secondary, 0x05⟩, [], rfl, rfl⟩
theorem rlcAtHL : Statement .rlcAtHL := fun _ => ⟨⟨.secondary, 0x06⟩, [], rfl, rfl⟩
theorem rlcA : Statement .rlcA := fun _ => ⟨⟨.secondary, 0x07⟩, [], rfl, rfl⟩
theorem rrcB : Statement .rrcB := fun _ => ⟨⟨.secondary, 0x08⟩, [], rfl, rfl⟩
theorem rrcC : Statement .rrcC := fun _ => ⟨⟨.secondary, 0x09⟩, [], rfl, rfl⟩
theorem rrcD : Statement .rrcD := fun _ => ⟨⟨.secondary, 0x0A⟩, [], rfl, rfl⟩
theorem rrcE : Statement .rrcE := fun _ => ⟨⟨.secondary, 0x0B⟩, [], rfl, rfl⟩
theorem rrcH : Statement .rrcH := fun _ => ⟨⟨.secondary, 0x0C⟩, [], rfl, rfl⟩
theorem rrcL : Statement .rrcL := fun _ => ⟨⟨.secondary, 0x0D⟩, [], rfl, rfl⟩
theorem rrcAtHL : Statement .rrcAtHL := fun _ => ⟨⟨.secondary, 0x0E⟩, [], rfl, rfl⟩
theorem rrcA : Statement .rrcA := fun _ => ⟨⟨.secondary, 0x0F⟩, [], rfl, rfl⟩
theorem rlB : Statement .rlB := fun _ => ⟨⟨.secondary, 0x10⟩, [], rfl, rfl⟩
theorem rlC : Statement .rlC := fun _ => ⟨⟨.secondary, 0x11⟩, [], rfl, rfl⟩
theorem rlD : Statement .rlD := fun _ => ⟨⟨.secondary, 0x12⟩, [], rfl, rfl⟩
theorem rlE : Statement .rlE := fun _ => ⟨⟨.secondary, 0x13⟩, [], rfl, rfl⟩
theorem rlH : Statement .rlH := fun _ => ⟨⟨.secondary, 0x14⟩, [], rfl, rfl⟩
theorem rlL : Statement .rlL := fun _ => ⟨⟨.secondary, 0x15⟩, [], rfl, rfl⟩
theorem rlAtHL : Statement .rlAtHL := fun _ => ⟨⟨.secondary, 0x16⟩, [], rfl, rfl⟩
theorem rlA : Statement .rlA := fun _ => ⟨⟨.secondary, 0x17⟩, [], rfl, rfl⟩
theorem rrB : Statement .rrB := fun _ => ⟨⟨.secondary, 0x18⟩, [], rfl, rfl⟩
theorem rrC : Statement .rrC := fun _ => ⟨⟨.secondary, 0x19⟩, [], rfl, rfl⟩
theorem rrD : Statement .rrD := fun _ => ⟨⟨.secondary, 0x1A⟩, [], rfl, rfl⟩
theorem rrE : Statement .rrE := fun _ => ⟨⟨.secondary, 0x1B⟩, [], rfl, rfl⟩
theorem rrH : Statement .rrH := fun _ => ⟨⟨.secondary, 0x1C⟩, [], rfl, rfl⟩
theorem rrL : Statement .rrL := fun _ => ⟨⟨.secondary, 0x1D⟩, [], rfl, rfl⟩
theorem rrAtHL : Statement .rrAtHL := fun _ => ⟨⟨.secondary, 0x1E⟩, [], rfl, rfl⟩
theorem rrA : Statement .rrA := fun _ => ⟨⟨.secondary, 0x1F⟩, [], rfl, rfl⟩
theorem slaB : Statement .slaB := fun _ => ⟨⟨.secondary, 0x20⟩, [], rfl, rfl⟩
theorem slaC : Statement .slaC := fun _ => ⟨⟨.secondary, 0x21⟩, [], rfl, rfl⟩
theorem slaD : Statement .slaD := fun _ => ⟨⟨.secondary, 0x22⟩, [], rfl, rfl⟩
theorem slaE : Statement .slaE := fun _ => ⟨⟨.secondary, 0x23⟩, [], rfl, rfl⟩
theorem slaH : Statement .slaH := fun _ => ⟨⟨.secondary, 0x24⟩, [], rfl, rfl⟩
theorem slaL : Statement .slaL := fun _ => ⟨⟨.secondary, 0x25⟩, [], rfl, rfl⟩
theorem slaAtHL : Statement .slaAtHL := fun _ => ⟨⟨.secondary, 0x26⟩, [], rfl, rfl⟩
theorem slaA : Statement .slaA := fun _ => ⟨⟨.secondary, 0x27⟩, [], rfl, rfl⟩
theorem sraB : Statement .sraB := fun _ => ⟨⟨.secondary, 0x28⟩, [], rfl, rfl⟩
theorem sraC : Statement .sraC := fun _ => ⟨⟨.secondary, 0x29⟩, [], rfl, rfl⟩
theorem sraD : Statement .sraD := fun _ => ⟨⟨.secondary, 0x2A⟩, [], rfl, rfl⟩
theorem sraE : Statement .sraE := fun _ => ⟨⟨.secondary, 0x2B⟩, [], rfl, rfl⟩
theorem sraH : Statement .sraH := fun _ => ⟨⟨.secondary, 0x2C⟩, [], rfl, rfl⟩
theorem sraL : Statement .sraL := fun _ => ⟨⟨.secondary, 0x2D⟩, [], rfl, rfl⟩
theorem sraAtHL : Statement .sraAtHL := fun _ => ⟨⟨.secondary, 0x2E⟩, [], rfl, rfl⟩
theorem sraA : Statement .sraA := fun _ => ⟨⟨.secondary, 0x2F⟩, [], rfl, rfl⟩
theorem swapB : Statement .swapB := fun _ => ⟨⟨.secondary, 0x30⟩, [], rfl, rfl⟩
theorem swapC : Statement .swapC := fun _ => ⟨⟨.secondary, 0x31⟩, [], rfl, rfl⟩
theorem swapD : Statement .swapD := fun _ => ⟨⟨.secondary, 0x32⟩, [], rfl, rfl⟩
theorem swapE : Statement .swapE := fun _ => ⟨⟨.secondary, 0x33⟩, [], rfl, rfl⟩
theorem swapH : Statement .swapH := fun _ => ⟨⟨.secondary, 0x34⟩, [], rfl, rfl⟩
theorem swapL : Statement .swapL := fun _ => ⟨⟨.secondary, 0x35⟩, [], rfl, rfl⟩
theorem swapAtHL : Statement .swapAtHL := fun _ => ⟨⟨.secondary, 0x36⟩, [], rfl, rfl⟩
theorem swapA : Statement .swapA := fun _ => ⟨⟨.secondary, 0x37⟩, [], rfl, rfl⟩
theorem srlB : Statement .srlB := fun _ => ⟨⟨.secondary, 0x38⟩, [], rfl, rfl⟩
theorem srlC : Statement .srlC := fun _ => ⟨⟨.secondary, 0x39⟩, [], rfl, rfl⟩
theorem srlD : Statement .srlD := fun _ => ⟨⟨.secondary, 0x3A⟩, [], rfl, rfl⟩
theorem srlE : Statement .srlE := fun _ => ⟨⟨.secondary, 0x3B⟩, [], rfl, rfl⟩
theorem srlH : Statement .srlH := fun _ => ⟨⟨.secondary, 0x3C⟩, [], rfl, rfl⟩
theorem srlL : Statement .srlL := fun _ => ⟨⟨.secondary, 0x3D⟩, [], rfl, rfl⟩
theorem srlAtHL : Statement .srlAtHL := fun _ => ⟨⟨.secondary, 0x3E⟩, [], rfl, rfl⟩
theorem srlA : Statement .srlA := fun _ => ⟨⟨.secondary, 0x3F⟩, [], rfl, rfl⟩
theorem bit0B : Statement .bit0B := fun _ => ⟨⟨.secondary, 0x40⟩, [], rfl, rfl⟩
theorem bit0C : Statement .bit0C := fun _ => ⟨⟨.secondary, 0x41⟩, [], rfl, rfl⟩
theorem bit0D : Statement .bit0D := fun _ => ⟨⟨.secondary, 0x42⟩, [], rfl, rfl⟩
theorem bit0E : Statement .bit0E := fun _ => ⟨⟨.secondary, 0x43⟩, [], rfl, rfl⟩
theorem bit0H : Statement .bit0H := fun _ => ⟨⟨.secondary, 0x44⟩, [], rfl, rfl⟩
theorem bit0L : Statement .bit0L := fun _ => ⟨⟨.secondary, 0x45⟩, [], rfl, rfl⟩
theorem bit0AtHL : Statement .bit0AtHL := fun _ => ⟨⟨.secondary, 0x46⟩, [], rfl, rfl⟩
theorem bit0A : Statement .bit0A := fun _ => ⟨⟨.secondary, 0x47⟩, [], rfl, rfl⟩
theorem bit1B : Statement .bit1B := fun _ => ⟨⟨.secondary, 0x48⟩, [], rfl, rfl⟩
theorem bit1C : Statement .bit1C := fun _ => ⟨⟨.secondary, 0x49⟩, [], rfl, rfl⟩
theorem bit1D : Statement .bit1D := fun _ => ⟨⟨.secondary, 0x4A⟩, [], rfl, rfl⟩
theorem bit1E : Statement .bit1E := fun _ => ⟨⟨.secondary, 0x4B⟩, [], rfl, rfl⟩
theorem bit1H : Statement .bit1H := fun _ => ⟨⟨.secondary, 0x4C⟩, [], rfl, rfl⟩
theorem bit1L : Statement .bit1L := fun _ => ⟨⟨.secondary, 0x4D⟩, [], rfl, rfl⟩
theorem bit1AtHL : Statement .bit1AtHL := fun _ => ⟨⟨.secondary, 0x4E⟩, [], rfl, rfl⟩
theorem bit1A : Statement .bit1A := fun _ => ⟨⟨.secondary, 0x4F⟩, [], rfl, rfl⟩
theorem bit2B : Statement .bit2B := fun _ => ⟨⟨.secondary, 0x50⟩, [], rfl, rfl⟩
theorem bit2C : Statement .bit2C := fun _ => ⟨⟨.secondary, 0x51⟩, [], rfl, rfl⟩
theorem bit2D : Statement .bit2D := fun _ => ⟨⟨.secondary, 0x52⟩, [], rfl, rfl⟩
theorem bit2E : Statement .bit2E := fun _ => ⟨⟨.secondary, 0x53⟩, [], rfl, rfl⟩
theorem bit2H : Statement .bit2H := fun _ => ⟨⟨.secondary, 0x54⟩, [], rfl, rfl⟩
theorem bit2L : Statement .bit2L := fun _ => ⟨⟨.secondary, 0x55⟩, [], rfl, rfl⟩
theorem bit2AtHL : Statement .bit2AtHL := fun _ => ⟨⟨.secondary, 0x56⟩, [], rfl, rfl⟩
theorem bit2A : Statement .bit2A := fun _ => ⟨⟨.secondary, 0x57⟩, [], rfl, rfl⟩
theorem bit3B : Statement .bit3B := fun _ => ⟨⟨.secondary, 0x58⟩, [], rfl, rfl⟩
theorem bit3C : Statement .bit3C := fun _ => ⟨⟨.secondary, 0x59⟩, [], rfl, rfl⟩
theorem bit3D : Statement .bit3D := fun _ => ⟨⟨.secondary, 0x5A⟩, [], rfl, rfl⟩
theorem bit3E : Statement .bit3E := fun _ => ⟨⟨.secondary, 0x5B⟩, [], rfl, rfl⟩
theorem bit3H : Statement .bit3H := fun _ => ⟨⟨.secondary, 0x5C⟩, [], rfl, rfl⟩
theorem bit3L : Statement .bit3L := fun _ => ⟨⟨.secondary, 0x5D⟩, [], rfl, rfl⟩
theorem bit3AtHL : Statement .bit3AtHL := fun _ => ⟨⟨.secondary, 0x5E⟩, [], rfl, rfl⟩
theorem bit3A : Statement .bit3A := fun _ => ⟨⟨.secondary, 0x5F⟩, [], rfl, rfl⟩
theorem bit4B : Statement .bit4B := fun _ => ⟨⟨.secondary, 0x60⟩, [], rfl, rfl⟩
theorem bit4C : Statement .bit4C := fun _ => ⟨⟨.secondary, 0x61⟩, [], rfl, rfl⟩
theorem bit4D : Statement .bit4D := fun _ => ⟨⟨.secondary, 0x62⟩, [], rfl, rfl⟩
theorem bit4E : Statement .bit4E := fun _ => ⟨⟨.secondary, 0x63⟩, [], rfl, rfl⟩
theorem bit4H : Statement .bit4H := fun _ => ⟨⟨.secondary, 0x64⟩, [], rfl, rfl⟩
theorem bit4L : Statement .bit4L := fun _ => ⟨⟨.secondary, 0x65⟩, [], rfl, rfl⟩
theorem bit4AtHL : Statement .bit4AtHL := fun _ => ⟨⟨.secondary, 0x66⟩, [], rfl, rfl⟩
theorem bit4A : Statement .bit4A := fun _ => ⟨⟨.secondary, 0x67⟩, [], rfl, rfl⟩
theorem bit5B : Statement .bit5B := fun _ => ⟨⟨.secondary, 0x68⟩, [], rfl, rfl⟩
theorem bit5C : Statement .bit5C := fun _ => ⟨⟨.secondary, 0x69⟩, [], rfl, rfl⟩
theorem bit5D : Statement .bit5D := fun _ => ⟨⟨.secondary, 0x6A⟩, [], rfl, rfl⟩
theorem bit5E : Statement .bit5E := fun _ => ⟨⟨.secondary, 0x6B⟩, [], rfl, rfl⟩
theorem bit5H : Statement .bit5H := fun _ => ⟨⟨.secondary, 0x6C⟩, [], rfl, rfl⟩
theorem bit5L : Statement .bit5L := fun _ => ⟨⟨.secondary, 0x6D⟩, [], rfl, rfl⟩
theorem bit5AtHL : Statement .bit5AtHL := fun _ => ⟨⟨.secondary, 0x6E⟩, [], rfl, rfl⟩
theorem bit5A : Statement .bit5A := fun _ => ⟨⟨.secondary, 0x6F⟩, [], rfl, rfl⟩
theorem bit6B : Statement .bit6B := fun _ => ⟨⟨.secondary, 0x70⟩, [], rfl, rfl⟩
theorem bit6C : Statement .bit6C := fun _ => ⟨⟨.secondary, 0x71⟩, [], rfl, rfl⟩
theorem bit6D : Statement .bit6D := fun _ => ⟨⟨.secondary, 0x72⟩, [], rfl, rfl⟩
theorem bit6E : Statement .bit6E := fun _ => ⟨⟨.secondary, 0x73⟩, [], rfl, rfl⟩
theorem bit6H : Statement .bit6H := fun _ => ⟨⟨.secondary, 0x74⟩, [], rfl, rfl⟩
theorem bit6L : Statement .bit6L := fun _ => ⟨⟨.secondary, 0x75⟩, [], rfl, rfl⟩
theorem bit6AtHL : Statement .bit6AtHL := fun _ => ⟨⟨.secondary, 0x76⟩, [], rfl, rfl⟩
theorem bit6A : Statement .bit6A := fun _ => ⟨⟨.secondary, 0x77⟩, [], rfl, rfl⟩
theorem bit7B : Statement .bit7B := fun _ => ⟨⟨.secondary, 0x78⟩, [], rfl, rfl⟩
theorem bit7C : Statement .bit7C := fun _ => ⟨⟨.secondary, 0x79⟩, [], rfl, rfl⟩
theorem bit7D : Statement .bit7D := fun _ => ⟨⟨.secondary, 0x7A⟩, [], rfl, rfl⟩
theorem bit7E : Statement .bit7E := fun _ => ⟨⟨.secondary, 0x7B⟩, [], rfl, rfl⟩
theorem bit7H : Statement .bit7H := fun _ => ⟨⟨.secondary, 0x7C⟩, [], rfl, rfl⟩
theorem bit7L : Statement .bit7L := fun _ => ⟨⟨.secondary, 0x7D⟩, [], rfl, rfl⟩
theorem bit7AtHL : Statement .bit7AtHL := fun _ => ⟨⟨.secondary, 0x7E⟩, [], rfl, rfl⟩
theorem bit7A : Statement .bit7A := fun _ => ⟨⟨.secondary, 0x7F⟩, [], rfl, rfl⟩
theorem res0B : Statement .res0B := fun _ => ⟨⟨.secondary, 0x80⟩, [], rfl, rfl⟩
theorem res0C : Statement .res0C := fun _ => ⟨⟨.secondary, 0x81⟩, [], rfl, rfl⟩
theorem res0D : Statement .res0D := fun _ => ⟨⟨.secondary, 0x82⟩, [], rfl, rfl⟩
theorem res0E : Statement .res0E := fun _ => ⟨⟨.secondary, 0x83⟩, [], rfl, rfl⟩
theorem res0H : Statement .res0H := fun _ => ⟨⟨.secondary, 0x84⟩, [], rfl, rfl⟩
theorem res0L : Statement .res0L := fun _ => ⟨⟨.secondary, 0x85⟩, [], rfl, rfl⟩
theorem res0AtHL : Statement .res0AtHL := fun _ => ⟨⟨.secondary, 0x86⟩, [], rfl, rfl⟩
theorem res0A : Statement .res0A := fun _ => ⟨⟨.secondary, 0x87⟩, [], rfl, rfl⟩
theorem res1B : Statement .res1B := fun _ => ⟨⟨.secondary, 0x88⟩, [], rfl, rfl⟩
theorem res1C : Statement .res1C := fun _ => ⟨⟨.secondary, 0x89⟩, [], rfl, rfl⟩
theorem res1D : Statement .res1D := fun _ => ⟨⟨.secondary, 0x8A⟩, [], rfl, rfl⟩
theorem res1E : Statement .res1E := fun _ => ⟨⟨.secondary, 0x8B⟩, [], rfl, rfl⟩
theorem res1H : Statement .res1H := fun _ => ⟨⟨.secondary, 0x8C⟩, [], rfl, rfl⟩
theorem res1L : Statement .res1L := fun _ => ⟨⟨.secondary, 0x8D⟩, [], rfl, rfl⟩
theorem res1AtHL : Statement .res1AtHL := fun _ => ⟨⟨.secondary, 0x8E⟩, [], rfl, rfl⟩
theorem res1A : Statement .res1A := fun _ => ⟨⟨.secondary, 0x8F⟩, [], rfl, rfl⟩
theorem res2B : Statement .res2B := fun _ => ⟨⟨.secondary, 0x90⟩, [], rfl, rfl⟩
theorem res2C : Statement .res2C := fun _ => ⟨⟨.secondary, 0x91⟩, [], rfl, rfl⟩
theorem res2D : Statement .res2D := fun _ => ⟨⟨.secondary, 0x92⟩, [], rfl, rfl⟩
theorem res2E : Statement .res2E := fun _ => ⟨⟨.secondary, 0x93⟩, [], rfl, rfl⟩
theorem res2H : Statement .res2H := fun _ => ⟨⟨.secondary, 0x94⟩, [], rfl, rfl⟩
theorem res2L : Statement .res2L := fun _ => ⟨⟨.secondary, 0x95⟩, [], rfl, rfl⟩
theorem res2AtHL : Statement .res2AtHL := fun _ => ⟨⟨.secondary, 0x96⟩, [], rfl, rfl⟩
theorem res2A : Statement .res2A := fun _ => ⟨⟨.secondary, 0x97⟩, [], rfl, rfl⟩
theorem res3B : Statement .res3B := fun _ => ⟨⟨.secondary, 0x98⟩, [], rfl, rfl⟩
theorem res3C : Statement .res3C := fun _ => ⟨⟨.secondary, 0x99⟩, [], rfl, rfl⟩
theorem res3D : Statement .res3D := fun _ => ⟨⟨.secondary, 0x9A⟩, [], rfl, rfl⟩
theorem res3E : Statement .res3E := fun _ => ⟨⟨.secondary, 0x9B⟩, [], rfl, rfl⟩
theorem res3H : Statement .res3H := fun _ => ⟨⟨.secondary, 0x9C⟩, [], rfl, rfl⟩
theorem res3L : Statement .res3L := fun _ => ⟨⟨.secondary, 0x9D⟩, [], rfl, rfl⟩
theorem res3AtHL : Statement .res3AtHL := fun _ => ⟨⟨.secondary, 0x9E⟩, [], rfl, rfl⟩
theorem res3A : Statement .res3A := fun _ => ⟨⟨.secondary, 0x9F⟩, [], rfl, rfl⟩
theorem res4B : Statement .res4B := fun _ => ⟨⟨.secondary, 0xA0⟩, [], rfl, rfl⟩
theorem res4C : Statement .res4C := fun _ => ⟨⟨.secondary, 0xA1⟩, [], rfl, rfl⟩
theorem res4D : Statement .res4D := fun _ => ⟨⟨.secondary, 0xA2⟩, [], rfl, rfl⟩
theorem res4E : Statement .res4E := fun _ => ⟨⟨.secondary, 0xA3⟩, [], rfl, rfl⟩
theorem res4H : Statement .res4H := fun _ => ⟨⟨.secondary, 0xA4⟩, [], rfl, rfl⟩
theorem res4L : Statement .res4L := fun _ => ⟨⟨.secondary, 0xA5⟩, [], rfl, rfl⟩
theorem res4AtHL : Statement .res4AtHL := fun _ => ⟨⟨.secondary, 0xA6⟩, [], rfl, rfl⟩
theorem res4A : Statement .res4A := fun _ => ⟨⟨.secondary, 0xA7⟩, [], rfl, rfl⟩
theorem res5B : Statement .res5B := fun _ => ⟨⟨.secondary, 0xA8⟩, [], rfl, rfl⟩
theorem res5C : Statement .res5C := fun _ => ⟨⟨.secondary, 0xA9⟩, [], rfl, rfl⟩
theorem res5D : Statement .res5D := fun _ => ⟨⟨.secondary, 0xAA⟩, [], rfl, rfl⟩
theorem res5E : Statement .res5E := fun _ => ⟨⟨.secondary, 0xAB⟩, [], rfl, rfl⟩
theorem res5H : Statement .res5H := fun _ => ⟨⟨.secondary, 0xAC⟩, [], rfl, rfl⟩
theorem res5L : Statement .res5L := fun _ => ⟨⟨.secondary, 0xAD⟩, [], rfl, rfl⟩
theorem res5AtHL : Statement .res5AtHL := fun _ => ⟨⟨.secondary, 0xAE⟩, [], rfl, rfl⟩
theorem res5A : Statement .res5A := fun _ => ⟨⟨.secondary, 0xAF⟩, [], rfl, rfl⟩
theorem res6B : Statement .res6B := fun _ => ⟨⟨.secondary, 0xB0⟩, [], rfl, rfl⟩
theorem res6C : Statement .res6C := fun _ => ⟨⟨.secondary, 0xB1⟩, [], rfl, rfl⟩
theorem res6D : Statement .res6D := fun _ => ⟨⟨.secondary, 0xB2⟩, [], rfl, rfl⟩
theorem res6E : Statement .res6E := fun _ => ⟨⟨.secondary, 0xB3⟩, [], rfl, rfl⟩
theorem res6H : Statement .res6H := fun _ => ⟨⟨.secondary, 0xB4⟩, [], rfl, rfl⟩
theorem res6L : Statement .res6L := fun _ => ⟨⟨.secondary, 0xB5⟩, [], rfl, rfl⟩
theorem res6AtHL : Statement .res6AtHL := fun _ => ⟨⟨.secondary, 0xB6⟩, [], rfl, rfl⟩
theorem res6A : Statement .res6A := fun _ => ⟨⟨.secondary, 0xB7⟩, [], rfl, rfl⟩
theorem res7B : Statement .res7B := fun _ => ⟨⟨.secondary, 0xB8⟩, [], rfl, rfl⟩
theorem res7C : Statement .res7C := fun _ => ⟨⟨.secondary, 0xB9⟩, [], rfl, rfl⟩
theorem res7D : Statement .res7D := fun _ => ⟨⟨.secondary, 0xBA⟩, [], rfl, rfl⟩
theorem res7E : Statement .res7E := fun _ => ⟨⟨.secondary, 0xBB⟩, [], rfl, rfl⟩
theorem res7H : Statement .res7H := fun _ => ⟨⟨.secondary, 0xBC⟩, [], rfl, rfl⟩
theorem res7L : Statement .res7L := fun _ => ⟨⟨.secondary, 0xBD⟩, [], rfl, rfl⟩
theorem res7AtHL : Statement .res7AtHL := fun _ => ⟨⟨.secondary, 0xBE⟩, [], rfl, rfl⟩
theorem res7A : Statement .res7A := fun _ => ⟨⟨.secondary, 0xBF⟩, [], rfl, rfl⟩
theorem set0B : Statement .set0B := fun _ => ⟨⟨.secondary, 0xC0⟩, [], rfl, rfl⟩
theorem set0C : Statement .set0C := fun _ => ⟨⟨.secondary, 0xC1⟩, [], rfl, rfl⟩
theorem set0D : Statement .set0D := fun _ => ⟨⟨.secondary, 0xC2⟩, [], rfl, rfl⟩
theorem set0E : Statement .set0E := fun _ => ⟨⟨.secondary, 0xC3⟩, [], rfl, rfl⟩
theorem set0H : Statement .set0H := fun _ => ⟨⟨.secondary, 0xC4⟩, [], rfl, rfl⟩
theorem set0L : Statement .set0L := fun _ => ⟨⟨.secondary, 0xC5⟩, [], rfl, rfl⟩
theorem set0AtHL : Statement .set0AtHL := fun _ => ⟨⟨.secondary, 0xC6⟩, [], rfl, rfl⟩
theorem set0A : Statement .set0A := fun _ => ⟨⟨.secondary, 0xC7⟩, [], rfl, rfl⟩
theorem set1B : Statement .set1B := fun _ => ⟨⟨.secondary, 0xC8⟩, [], rfl, rfl⟩
theorem set1C : Statement .set1C := fun _ => ⟨⟨.secondary, 0xC9⟩, [], rfl, rfl⟩
theorem set1D : Statement .set1D := fun _ => ⟨⟨.secondary, 0xCA⟩, [], rfl, rfl⟩
theorem set1E : Statement .set1E := fun _ => ⟨⟨.secondary, 0xCB⟩, [], rfl, rfl⟩
theorem set1H : Statement .set1H := fun _ => ⟨⟨.secondary, 0xCC⟩, [], rfl, rfl⟩
theorem set1L : Statement .set1L := fun _ => ⟨⟨.secondary, 0xCD⟩, [], rfl, rfl⟩
theorem set1AtHL : Statement .set1AtHL := fun _ => ⟨⟨.secondary, 0xCE⟩, [], rfl, rfl⟩
theorem set1A : Statement .set1A := fun _ => ⟨⟨.secondary, 0xCF⟩, [], rfl, rfl⟩
theorem set2B : Statement .set2B := fun _ => ⟨⟨.secondary, 0xD0⟩, [], rfl, rfl⟩
theorem set2C : Statement .set2C := fun _ => ⟨⟨.secondary, 0xD1⟩, [], rfl, rfl⟩
theorem set2D : Statement .set2D := fun _ => ⟨⟨.secondary, 0xD2⟩, [], rfl, rfl⟩
theorem set2E : Statement .set2E := fun _ => ⟨⟨.secondary, 0xD3⟩, [], rfl, rfl⟩
theorem set2H : Statement .set2H := fun _ => ⟨⟨.secondary, 0xD4⟩, [], rfl, rfl⟩
theorem set2L : Statement .set2L := fun _ => ⟨⟨.secondary, 0xD5⟩, [], rfl, rfl⟩
theorem set2AtHL : Statement .set2AtHL := fun _ => ⟨⟨.secondary, 0xD6⟩, [], rfl, rfl⟩
theorem set2A : Statement .set2A := fun _ => ⟨⟨.secondary, 0xD7⟩, [], rfl, rfl⟩
theorem set3B : Statement .set3B := fun _ => ⟨⟨.secondary, 0xD8⟩, [], rfl, rfl⟩
theorem set3C : Statement .set3C := fun _ => ⟨⟨.secondary, 0xD9⟩, [], rfl, rfl⟩
theorem set3D : Statement .set3D := fun _ => ⟨⟨.secondary, 0xDA⟩, [], rfl, rfl⟩
theorem set3E : Statement .set3E := fun _ => ⟨⟨.secondary, 0xDB⟩, [], rfl, rfl⟩
theorem set3H : Statement .set3H := fun _ => ⟨⟨.secondary, 0xDC⟩, [], rfl, rfl⟩
theorem set3L : Statement .set3L := fun _ => ⟨⟨.secondary, 0xDD⟩, [], rfl, rfl⟩
theorem set3AtHL : Statement .set3AtHL := fun _ => ⟨⟨.secondary, 0xDE⟩, [], rfl, rfl⟩
theorem set3A : Statement .set3A := fun _ => ⟨⟨.secondary, 0xDF⟩, [], rfl, rfl⟩
theorem set4B : Statement .set4B := fun _ => ⟨⟨.secondary, 0xE0⟩, [], rfl, rfl⟩
theorem set4C : Statement .set4C := fun _ => ⟨⟨.secondary, 0xE1⟩, [], rfl, rfl⟩
theorem set4D : Statement .set4D := fun _ => ⟨⟨.secondary, 0xE2⟩, [], rfl, rfl⟩
theorem set4E : Statement .set4E := fun _ => ⟨⟨.secondary, 0xE3⟩, [], rfl, rfl⟩
theorem set4H : Statement .set4H := fun _ => ⟨⟨.secondary, 0xE4⟩, [], rfl, rfl⟩
theorem set4L : Statement .set4L := fun _ => ⟨⟨.secondary, 0xE5⟩, [], rfl, rfl⟩
theorem set4AtHL : Statement .set4AtHL := fun _ => ⟨⟨.secondary, 0xE6⟩, [], rfl, rfl⟩
theorem set4A : Statement .set4A := fun _ => ⟨⟨.secondary, 0xE7⟩, [], rfl, rfl⟩
theorem set5B : Statement .set5B := fun _ => ⟨⟨.secondary, 0xE8⟩, [], rfl, rfl⟩
theorem set5C : Statement .set5C := fun _ => ⟨⟨.secondary, 0xE9⟩, [], rfl, rfl⟩
theorem set5D : Statement .set5D := fun _ => ⟨⟨.secondary, 0xEA⟩, [], rfl, rfl⟩
theorem set5E : Statement .set5E := fun _ => ⟨⟨.secondary, 0xEB⟩, [], rfl, rfl⟩
theorem set5H : Statement .set5H := fun _ => ⟨⟨.secondary, 0xEC⟩, [], rfl, rfl⟩
theorem set5L : Statement .set5L := fun _ => ⟨⟨.secondary, 0xED⟩, [], rfl, rfl⟩
theorem set5AtHL : Statement .set5AtHL := fun _ => ⟨⟨.secondary, 0xEE⟩, [], rfl, rfl⟩
theorem set5A : Statement .set5A := fun _ => ⟨⟨.secondary, 0xEF⟩, [], rfl, rfl⟩
theorem set6B : Statement .set6B := fun _ => ⟨⟨.secondary, 0xF0⟩, [], rfl, rfl⟩
theorem set6C : Statement .set6C := fun _ => ⟨⟨.secondary, 0xF1⟩, [], rfl, rfl⟩
theorem set6D : Statement .set6D := fun _ => ⟨⟨.secondary, 0xF2⟩, [], rfl, rfl⟩
theorem set6E : Statement .set6E := fun _ => ⟨⟨.secondary, 0xF3⟩, [], rfl, rfl⟩
theorem set6H : Statement .set6H := fun _ => ⟨⟨.secondary, 0xF4⟩, [], rfl, rfl⟩
theorem set6L : Statement .set6L := fun _ => ⟨⟨.secondary, 0xF5⟩, [], rfl, rfl⟩
theorem set6AtHL : Statement .set6AtHL := fun _ => ⟨⟨.secondary, 0xF6⟩, [], rfl, rfl⟩
theorem set6A : Statement .set6A := fun _ => ⟨⟨.secondary, 0xF7⟩, [], rfl, rfl⟩
theorem set7B : Statement .set7B := fun _ => ⟨⟨.secondary, 0xF8⟩, [], rfl, rfl⟩
theorem set7C : Statement .set7C := fun _ => ⟨⟨.secondary, 0xF9⟩, [], rfl, rfl⟩
theorem set7D : Statement .set7D := fun _ => ⟨⟨.secondary, 0xFA⟩, [], rfl, rfl⟩
theorem set7E : Statement .set7E := fun _ => ⟨⟨.secondary, 0xFB⟩, [], rfl, rfl⟩
theorem set7H : Statement .set7H := fun _ => ⟨⟨.secondary, 0xFC⟩, [], rfl, rfl⟩
theorem set7L : Statement .set7L := fun _ => ⟨⟨.secondary, 0xFD⟩, [], rfl, rfl⟩
theorem set7AtHL : Statement .set7AtHL := fun _ => ⟨⟨.secondary, 0xFE⟩, [], rfl, rfl⟩
theorem set7A : Statement .set7A := fun _ => ⟨⟨.secondary, 0xFF⟩, [], rfl, rfl⟩

end Sys2Proof.Laws.EncodedLength
end

