-- ==== Sys2Proof/Laws/Step.lean ====
section
/-! SUPPORT. What the dispatcher does around a handler (40_dispatch.md R100 to R113): the start of a step, the fetch, and the
two ways a step can answer a next state. -/

namespace Sys2Proof.Machine

/-! ### The start of a step (R100, R101) -/

@[simp] theorem startStep_a (s : State) : (startStep s).a = s.a := by unfold startStep; split <;> rfl
@[simp] theorem startStep_b (s : State) : (startStep s).b = s.b := by unfold startStep; split <;> rfl
@[simp] theorem startStep_c (s : State) : (startStep s).c = s.c := by unfold startStep; split <;> rfl
@[simp] theorem startStep_d (s : State) : (startStep s).d = s.d := by unfold startStep; split <;> rfl
@[simp] theorem startStep_e (s : State) : (startStep s).e = s.e := by unfold startStep; split <;> rfl
@[simp] theorem startStep_h (s : State) : (startStep s).h = s.h := by unfold startStep; split <;> rfl
@[simp] theorem startStep_l (s : State) : (startStep s).l = s.l := by unfold startStep; split <;> rfl
@[simp] theorem startStep_flags (s : State) : (startStep s).flags = s.flags := by unfold startStep; split <;> rfl
@[simp] theorem startStep_sp (s : State) : (startStep s).sp = s.sp := by unfold startStep; split <;> rfl
@[simp] theorem startStep_pc (s : State) : (startStep s).pc = s.pc := by unfold startStep; split <;> rfl
@[simp] theorem startStep_ime (s : State) : (startStep s).ime = (s.ime || s.imePending) := by
  unfold startStep; split <;> simp_all
@[simp] theorem startStep_imePending (s : State) : (startStep s).imePending = false := by
  unfold startStep; split <;> simp_all
@[simp] theorem startStep_halted (s : State) : (startStep s).halted = s.halted := by unfold startStep; split <;> rfl
@[simp] theorem startStep_stopped (s : State) : (startStep s).stopped = s.stopped := by unfold startStep; split <;> rfl
@[simp] theorem startStep_mem (s : State) : (startStep s).mem = s.mem := by unfold startStep; split <;> rfl
@[simp] theorem startStep_taken (s : State) : (startStep s).taken = false := by unfold startStep; split <;> rfl
@[simp] theorem startStep_cycles (s : State) : (startStep s).cycles = s.cycles := by unfold startStep; split <;> rfl
@[simp] theorem startStep_io (s : State) : (startStep s).io = s.io := by unfold startStep; split <;> rfl
@[simp] theorem startStep_cfg (s : State) : (startStep s).cfg = s.cfg := by unfold startStep; split <;> rfl
@[simp] theorem startStep_getReg (s : State) (r : Reg8) : (startStep s).getReg r = s.getReg r := by
  unfold startStep; split <;> rfl
@[simp] theorem startStep_running (s : State) : (startStep s).running = s.running := by
  simp [State.running]

/-! ### Fetching -/

/-- All a byte fetch that succeeds can answer (R102). -/
theorem fetch8_eq_ok {s : State} {r : Byte × State} : fetch8 s = .ok r ↔
    s.cfg.faultInfo s.pc .fetch = none ∧ r = (s.peek s.pc, { s.afterRead s.pc with pc := s.pc + 1#16 }) := by
  unfold fetch8
  cases h : memRead s s.pc .fetch with
  | error f =>
    obtain ⟨n, hn, -⟩ := memRead_eq_error.1 h
    simp [hn]
  | ok x =>
    obtain ⟨hn, rfl⟩ := memRead_eq_ok.1 h
    simp only [hn, State.afterRead_pc, Except.ok.injEq, true_and]
    exact eq_comm

/-- A byte fetch faults on the byte at PC only (R262). -/
theorem fetch8_error {s : State} {f : Fault} (h : fetch8 s = .error f) :
    ∃ n, s.cfg.faultInfo s.pc .fetch = some n ∧ f = .memoryFault s.pc .fetch n := by
  unfold fetch8 at h
  cases h2 : memRead s s.pc .fetch with
  | error g => rw [h2] at h; cases h; exact memRead_eq_error.1 h2
  | ok x => rw [h2] at h; cases h

/-- A fetch changes PC and what the devices have seen, nothing else. -/
def OnlyFetched (s t : State) : Prop := t = { s with pc := t.pc, io := t.io }

theorem OnlyFetched.refl (s : State) : OnlyFetched s s := rfl

theorem OnlyFetched.trans {s t u : State} (h1 : OnlyFetched s t) (h2 : OnlyFetched t u) : OnlyFetched s u := by
  unfold OnlyFetched at *
  rw [h2, h1]

theorem fetch8_only {s : State} {r : Byte × State} (h : fetch8 s = .ok r) :
    OnlyFetched s r.2 ∧ r.2.pc = s.pc + 1#16 := by
  obtain ⟨-, rfl⟩ := fetch8_eq_ok.1 h
  refine ⟨?_, rfl⟩
  unfold OnlyFetched State.afterRead
  split <;> rfl

theorem fetchBytes_only : ∀ {n : Nat} {s : State} {r : List Byte × State}, fetchBytes n s = .ok r →
    OnlyFetched s r.2 ∧ r.2.pc = s.pc + BitVec.ofNat 16 n ∧ r.1.length = n := by
  intro n
  induction n with
  | zero => intro s r h; cases h; exact ⟨rfl, by simp, rfl⟩
  | succ n ih =>
    intro s r h
    unfold fetchBytes at h
    cases h1 : fetch8 s with
    | error f => rw [h1] at h; cases h
    | ok x =>
      rw [h1] at h
      simp only at h
      cases h2 : fetchBytes n x.2 with
      | error f => rw [h2] at h; cases h
      | ok y =>
        rw [h2] at h
        cases h
        obtain ⟨a1, a2⟩ := fetch8_only h1
        obtain ⟨b1, b2, b3⟩ := ih h2
        refine ⟨a1.trans b1, ?_, by simp [b3]⟩
        simp only [b2, a2]
        rw [BitVec.add_assoc]
        congr 1
        apply BitVec.eq_of_toNat_eq
        simp [Nat.add_comm]

theorem fetchBytes_error : ∀ {n : Nat} {s : State} {f : Fault}, fetchBytes n s = .error f →
    ∃ a info, f = .memoryFault a .fetch info := by
  intro n
  induction n with
  | zero => intro s f h; cases h
  | succ n ih =>
    intro s f h
    unfold fetchBytes at h
    cases h1 : fetch8 s with
    | error g => rw [h1] at h; cases h; obtain ⟨k, -, rfl⟩ := fetch8_error h1; exact ⟨_, _, rfl⟩
    | ok x =>
      rw [h1] at h
      simp only at h
      cases h2 : fetchBytes n x.2 with
      | error g => rw [h2] at h; cases h; exact ih h2
      | ok y => rw [h2] at h; cases h

/-- A key the dispatcher can form (R102): the escape byte is no primary key. -/
def KeyOk (k : Key) : Prop := k.space = .primary → k.opcode ≠ 0xCB

theorem fetchKey_only {s : State} {r : Key × State} (h : fetchKey s = .ok r) :
    OnlyFetched s r.2 ∧ r.2.pc = s.pc + BitVec.ofNat 16 r.1.bytes.length ∧ KeyOk r.1 := by
  unfold fetchKey at h
  cases h1 : fetch8 s with
  | error f => rw [h1] at h; cases h
  | ok x =>
    rw [h1] at h
    simp only at h
    obtain ⟨a1, a2⟩ := fetch8_only h1
    split at h
    · cases h2 : fetch8 x.2 with
      | error f => rw [h2] at h; cases h
      | ok y =>
        rw [h2] at h
        cases h
        obtain ⟨b1, b2⟩ := fetch8_only h2
        refine ⟨a1.trans b1, ?_, by intro hk; cases hk⟩
        simp only [b2, a2, Key.bytes]
        rw [BitVec.add_assoc]; rfl
    · rename_i hne
      cases h
      exact ⟨a1, a2, fun _ => hne⟩

theorem fetchKey_error {s : State} {f : Fault} (h : fetchKey s = .error f) :
    ∃ a info, f = .memoryFault a .fetch info := by
  unfold fetchKey at h
  cases h1 : fetch8 s with
  | error g => rw [h1] at h; cases h; obtain ⟨k, -, rfl⟩ := fetch8_error h1; exact ⟨_, _, rfl⟩
  | ok x =>
    rw [h1] at h
    simp only at h
    split at h
    · cases h2 : fetch8 x.2 with
      | error g => rw [h2] at h; cases h; obtain ⟨k, -, rfl⟩ := fetch8_error h2; exact ⟨_, _, rfl⟩
      | ok y => rw [h2] at h; cases h
    · cases h

/-! ### Decoding what was fetched -/

/-- The opcode bytes of a key and as many operand bytes as its row has decode, with nothing left (R87). -/
theorem decode_fetched {sl : StopLength} {k : Key} {ops : List Byte} (hk : KeyOk k)
    (h : ops.length = k.operandBytes sl) : ∃ i, decode sl (k.bytes ++ ops) = .ok (i, []) := by
  obtain ⟨sp, op⟩ := k
  cases sp with
  | secondary =>
    have : ops = [] := List.length_eq_zero_iff.1 h
    subst this
    exact ⟨secondaryRow op, by simp only [Key.bytes, List.append_nil, decode, Laws.primaryRow_cb]⟩
  | primary =>
    simp only [Key.operandBytes] at h
    simp only [Key.bytes, List.cons_append, List.nil_append, decode]
    cases hr : primaryRow op with
    | plain i => rw [hr] at h; rw [List.length_eq_zero_iff.1 h]; exact ⟨i, rfl⟩
    | imm8 f => rw [hr] at h; obtain ⟨v, rfl⟩ := List.length_eq_one_iff.1 h; exact ⟨f v, rfl⟩
    | imm16 f => rw [hr] at h; obtain ⟨lo, hi, rfl⟩ := List.length_eq_two.1 h; exact ⟨f _, rfl⟩
    | stop =>
      rw [hr] at h
      cases sl with
      | one => rw [List.length_eq_zero_iff.1 h]; exact ⟨.stop, rfl⟩
      | two => obtain ⟨v, rfl⟩ := List.length_eq_one_iff.1 h; exact ⟨.stop, rfl⟩
    | escape => exact absurd (Laws.primaryRow_escape op hr) (hk rfl)

/-- All a fetch of one instruction that succeeds can answer. -/
theorem fetchInstr_ok {s : State} {f : Fetched} (h : fetchInstr s = .ok f) :
    ∃ k ops, KeyOk k ∧ costOf s.cfg k = some f.cost ∧ ops.length = k.operandBytes s.cfg.stopLength ∧
      decode s.cfg.stopLength (k.bytes ++ ops) = .ok (f.instr, []) ∧ OnlyFetched s f.state ∧
      f.state.pc = s.pc + BitVec.ofNat 16 (k.bytes.length + ops.length) := by
  unfold fetchInstr at h
  cases h1 : fetchKey s with
  | error g => rw [h1] at h; cases h
  | ok x =>
    rw [h1] at h
    obtain ⟨a1, a2, a3⟩ := fetchKey_only h1
    simp only at h
    cases h2 : costOf s.cfg x.1 with
    | none => rw [h2] at h; cases h
    | some c =>
      rw [h2] at h
      simp only at h
      cases h3 : fetchBytes (x.1.operandBytes s.cfg.stopLength) x.2 with
      | error g => rw [h3] at h; cases h
      | ok y =>
        rw [h3] at h
        obtain ⟨b1, b2, b3⟩ := fetchBytes_only h3
        obtain ⟨i, hi⟩ := decode_fetched (sl := s.cfg.stopLength) a3 b3
        simp only [hi] at h
        cases h
        refine ⟨x.1, y.1, a3, h2, b3, hi, a1.trans b1, ?_⟩
        simp only [b2, a2, b3]
        rw [BitVec.add_assoc]
        congr 1
        apply BitVec.eq_of_toNat_eq
        simp

/-- A fetch of one instruction ends in a fetch fault or a missing cost record, never in the defensive check (R263). -/
theorem fetchInstr_error {s : State} {f : Fault} (h : fetchInstr s = .error f) :
    (∃ a info, f = .memoryFault a .fetch info) ∨
      ∃ k, KeyOk k ∧ costOf s.cfg k = none ∧ f = .malformedOpcode k.space k.opcode s.pc := by
  unfold fetchInstr at h
  cases h1 : fetchKey s with
  | error g => rw [h1] at h; cases h; exact .inl (fetchKey_error h1)
  | ok x =>
    rw [h1] at h
    obtain ⟨a1, a2, a3⟩ := fetchKey_only h1
    simp only at h
    cases h2 : costOf s.cfg x.1 with
    | none => rw [h2] at h; cases h; exact .inr ⟨x.1, a3, h2, rfl⟩
    | some c =>
      rw [h2] at h
      simp only at h
      cases h3 : fetchBytes (x.1.operandBytes s.cfg.stopLength) x.2 with
      | error g => rw [h3] at h; cases h; exact .inl (fetchBytes_error h3)
      | ok y =>
        rw [h3] at h
        obtain ⟨b1, b2, b3⟩ := fetchBytes_only h3
        obtain ⟨i, hi⟩ := decode_fetched (sl := s.cfg.stopLength) a3 b3
        simp only [hi] at h
        cases h

/-! ### Fetching bytes that stand in plain RAM -/

/-- The start of a step as one update. -/
theorem startStep_eq (s : State) :
    startStep s = { s with taken := false, ime := s.ime || s.imePending, imePending := false } := by
  rcases s with ⟨⟩; unfold startStep; split <;> simp_all

/-- What stands in plain RAM depends on memory and the parameters only. -/
theorem State.fetchesAt_congr (s t : State) (hc : t.cfg = s.cfg) (hm : t.mem = s.mem) :
    ∀ (bs : List Byte) (a : Word), s.fetchesAt a bs → t.fetchesAt a bs := by
  intro bs; induction bs with
  | nil => intros; trivial
  | cons v vs ih => intro a h; simp only [State.fetchesAt, hc, hm] at h ⊢; exact ⟨h.1, ih _ h.2⟩

/-- Moving PC moves no byte. -/
theorem State.fetchesAt_pc (s : State) (x : Word) (bs : List Byte) (a : Word) :
    State.fetchesAt { s with pc := x } a bs ↔ s.fetchesAt a bs :=
  ⟨fun h => State.fetchesAt_congr { s with pc := x } s rfl rfl _ _ h,
    fun h => State.fetchesAt_congr s { s with pc := x } rfl rfl _ _ h⟩

/-- The fetch of a byte that stands in plain RAM. -/
theorem fetch8_fetchesAt {s : State} {v : Byte} {vs : List Byte} (h : s.fetchesAt s.pc (v :: vs)) :
    fetch8 s = .ok (v, { s with pc := s.pc + 1#16 }) ∧
      State.fetchesAt { s with pc := s.pc + 1#16 } (s.pc + 1#16) vs := by
  obtain ⟨⟨h1, h2, h3⟩, h4⟩ := h
  refine ⟨fetch8_eq_ok.2 ⟨h2, ?_⟩, ?_⟩
  · simp [State.peek, State.afterRead, h1, h3]
  · exact (State.fetchesAt_pc ..).2 h4

/-- The fetch of bytes that stand in plain RAM. -/
theorem fetchBytes_fetchesAt : ∀ (vs : List Byte) (s : State), s.fetchesAt s.pc vs →
    fetchBytes vs.length s = .ok (vs, { s with pc := s.pc + BitVec.ofNat 16 vs.length }) := by
  intro vs; induction vs with
  | nil => intro s h; simp [fetchBytes]
  | cons v vs ih =>
    intro s h
    obtain ⟨a, b⟩ := fetch8_fetchesAt h
    simp only [List.length_cons, fetchBytes, a]
    rw [ih _ b]
    simp only [BitVec.add_assoc]
    congr 4
    apply BitVec.eq_of_toNat_eq; simp [Nat.add_comm]

/-- The fetch of opcode bytes that stand in plain RAM (R102). -/
theorem fetchKey_fetchesAt {s : State} {k : Key} (hk : KeyOk k) (h : s.fetchesAt s.pc k.bytes) :
    fetchKey s = .ok (k, { s with pc := s.pc + BitVec.ofNat 16 k.bytes.length }) := by
  obtain ⟨sp, op⟩ := k
  cases sp with
  | primary =>
    obtain ⟨a, b⟩ := fetch8_fetchesAt h
    have := hk rfl
    unfold fetchKey; rw [a]; simp only at this ⊢; rw [if_neg this]; rfl
  | secondary =>
    obtain ⟨a, b⟩ := fetch8_fetchesAt h
    obtain ⟨c, d⟩ := fetch8_fetchesAt b
    simp [fetchKey, a, c, Key.bytes, BitVec.add_assoc]

/-- Bytes that follow one another. -/
theorem State.fetchesAt_append {s : State} : ∀ (xs ys : List Byte) (a : Word),
    s.fetchesAt a (xs ++ ys) ↔ s.fetchesAt a xs ∧ s.fetchesAt (a + BitVec.ofNat 16 xs.length) ys := by
  intro xs; induction xs with
  | nil => intro ys a; simp [State.fetchesAt]
  | cons x xs ih =>
    intro ys a
    simp only [List.cons_append, State.fetchesAt, ih, and_assoc, List.length_cons]
    have : a + 1#16 + BitVec.ofNat 16 xs.length = a + BitVec.ofNat 16 (xs.length + 1) := by
      rw [BitVec.add_assoc]; congr 1; apply BitVec.eq_of_toNat_eq; simp [Nat.add_comm]
    rw [this]

/-- What decodes is the opcode bytes of its key, the operand bytes the key asks for, and what follows. -/
theorem decode_split {sl : StopLength} {bs : List Byte} {i : Instr} {rest : List Byte}
    (h : decode sl bs = .ok (i, rest)) :
    ∃ ops, bs = (keyOfBytes bs).bytes ++ ops ++ rest ∧
      ops.length = (keyOfBytes bs).operandBytes sl ∧ KeyOk (keyOfBytes bs) := by
  cases bs with
  | nil => cases h
  | cons op bs =>
    simp only [decode] at h
    by_cases hcb : op = 0xCB
    · subst hcb
      rw [Laws.primaryRow_cb] at h
      cases bs with
      | nil => cases h
      | cons v vs => cases h; exact ⟨[], rfl, rfl, by intro hk; cases hk⟩
    · have hk : keyOfBytes (op :: bs) = ⟨.primary, op⟩ := by
        cases bs with
        | nil => rfl
        | cons v vs => exact if_neg hcb
      rw [hk]
      simp only [Key.bytes, Key.operandBytes]
      cases hr : primaryRow op with
      | plain j => rw [hr] at h; cases h; exact ⟨[], rfl, rfl, fun _ => hcb⟩
      | imm8 f => rw [hr] at h; cases bs with
        | nil => cases h
        | cons v vs => cases h; exact ⟨[v], rfl, rfl, fun _ => hcb⟩
      | imm16 f => rw [hr] at h; cases bs with
        | nil => cases h
        | cons v vs => cases vs with
          | nil => cases h
          | cons w ws => cases h; exact ⟨[v, w], rfl, rfl, fun _ => hcb⟩
      | stop => rw [hr] at h; cases sl with
        | one => cases h; exact ⟨[], rfl, rfl, fun _ => hcb⟩
        | two => cases bs with
          | nil => cases h
          | cons v vs => cases h; exact ⟨[v], rfl, rfl, fun _ => hcb⟩
      | escape => exact absurd (Laws.primaryRow_escape op hr) hcb

/-- The fetch of an instruction whose bytes stand in plain RAM and whose key has a cost record (R102 to R104). -/
theorem fetchInstr_fetchesAt {s : State} {bs : List Byte} {i : Instr} {c : Cost}
    (h : s.fetchesAt s.pc bs) (hd : decode s.cfg.stopLength bs = .ok (i, []))
    (hc : costOf s.cfg (keyOfBytes bs) = some c) :
    fetchInstr s = .ok ⟨i, c, { s with pc := s.pc + BitVec.ofNat 16 bs.length }⟩ := by
  obtain ⟨ops, h1, h2, h3⟩ := decode_split hd
  rw [List.append_nil] at h1
  have h' := h
  rw [h1, State.fetchesAt_append] at h'
  unfold fetchInstr
  rw [fetchKey_fetchesAt h3 h'.1]; simp only [hc]
  rw [← h2, fetchBytes_fetchesAt ops { s with pc := s.pc + BitVec.ofNat 16 (keyOfBytes bs).bytes.length }
    ((State.fetchesAt_pc ..).2 h'.2)]
  simp only [← h1, hd, BitVec.add_assoc]
  have e : (BitVec.ofNat 16 (keyOfBytes bs).bytes.length + BitVec.ofNat 16 ops.length) = BitVec.ofNat 16 bs.length := by
    conv_rhs => rw [h1]
    apply BitVec.eq_of_toNat_eq; simp
  rw [e]

/-! ### The step -/

/-- The end of an instruction's step only adds its cost (R108). -/
theorem finish_next {c : Cost} {o : Out} {t : State} (h : finish c o = .next t) :
    ∃ u, o = .next u ∧ t = { u with cycles := charge c u.taken } := by
  cases o with
  | next u => cases h; exact ⟨u, rfl, rfl⟩
  | fault f => cases h
  | refused r => cases h

/-- The two ways a step answers a next state: an idle step (R110), or one instruction fetched and executed. -/
theorem step_cases {s t : State} (h : step s = .next t) :
    (s.running = false ∧ t = idle (startStep s)) ∨
    (s.running = true ∧ ∃ f u, fetchInstr (startStep s) = .ok f ∧ exec f.instr f.state = .next u ∧
      t = { u with cycles := charge f.cost u.taken }) := by
  unfold step at h
  simp only [startStep_running] at h
  split at h
  · rename_i hr
    obtain ⟨f, hf, h⟩ := orFault_next h
    obtain ⟨u, hu, rfl⟩ := finish_next h
    exact .inr ⟨hr, f, u, hf, hu, rfl⟩
  · rename_i hr
    cases h
    exact .inl ⟨by simpa using hr, rfl⟩

end Sys2Proof.Machine
end

