-- ==== Sys2Proof/Tests/Slice0.lean ====
section
/-! SUPPORT. The model's own tests. Expected results are those of spec/95_test_vectors.md (V1 to V110, S1 to S9) and of the
examples in the rules; each name says which. -/

namespace Sys2Proof.Tests

open Sys2Proof Sys2Proof.Machine

/-- A state with bytes at an address and PC on the first of them. -/
def load (s : State) (pc : Word) (bs : List Byte) : State := State.storeBytes { s with pc := pc } pc bs

/-- Bytes at address 0 of a changed reset state, as the vectors start. -/
def run0 (bs : List Byte) (f : State → State) : Out := step (load (f State.reset) 0 bs)

/-- One field or several of a next state; `none` for an error or a refusal. -/
def got {α : Type} (f : State → α) (o : Out) : Option α :=
  match o with
  | .next t => some (f t)
  | .fault _ => none
  | .refused _ => none

/-- The error of an outcome. -/
def err (o : Out) : Option Fault :=
  match o with
  | .fault f => some f
  | .next _ => none
  | .refused _ => none

/-- Set the flags from a packed byte. -/
def withF (s : State) (v : Byte) : State := { s with flags := Flags.unpack v }

/-- Put a byte in memory. -/
def withMem (s : State) (a : Nat) (v : Byte) : State := { s with mem := s.mem.write a v }

/-- The accumulator, the packed flags, PC and the cost. -/
def afpc (t : State) : Byte × Byte × Word × Nat := (t.a, t.flags.pack, t.pc, t.cycles)

/-! ### Well-formedness refuses the illegal rows (R84) -/

theorem test_wf_refuses_illegal :
    [Instr.illegalD3, .illegalDB, .illegalDD, .illegalE3, .illegalE4, .illegalEB, .illegalEC, .illegalED, .illegalF4,
      .illegalFC, .illegalFD].all (fun i => !i.wf) = true := by decide

theorem test_wf_accepts : [Instr.nop, .ldBC, .stop, .set7AtHL, .rst38].all Instr.wf = true := by decide

/-! ### Decoding: words written out from the encodings of R71, R81 and R82 -/

/-- `01 010 011` LD D,E; `00 111 110` d8 LD A,d8; `01 110 000` LD (HL),B (R81). -/
theorem test_decode_load8 :
    decode .two [0b01010011] = .ok (.ldDE, []) ∧ decode .two [0b00111110, 0x45] = .ok (.ldAImm 0x45, []) ∧
      decode .two [0b01110000] = .ok (.ldAtHLB, []) ∧ decode .two [0b01110110] = .ok (.halt, []) := by decide

/-- `00 11 0001` d16 LD SP,d16 low byte first; `11 11 0001` POP AF; `11 10 0101` PUSH HL (R81, R77). -/
theorem test_decode_load16 :
    decode .two [0b00110001, 0xFE, 0xFF] = .ok (.ldSPImm 0xFFFE, []) ∧ decode .two [0b11110001] = .ok (.popAF, []) ∧
      decode .two [0b11100101] = .ok (.pushHL, []) := by decide

/-- `10 011 001` SBC A,C; `11 101 110` d8 XOR d8; `00 110 100` INC (HL) (R81). -/
theorem test_decode_alu8 :
    decode .two [0b10011001] = .ok (.sbcAC, []) ∧ decode .two [0b11101110, 0x0F] = .ok (.xorImm 0x0F, []) ∧
      decode .two [0b00110100] = .ok (.incAtHL, []) := by decide

/-- `00 01 1001` ADD HL,DE; `00 11 1011` DEC SP; `00 100 111` DAA (R81). -/
theorem test_decode_alu16_rotate :
    decode .two [0b00011001] = .ok (.addHLDE, []) ∧ decode .two [0b00111011] = .ok (.decSP, []) ∧
      decode .two [0b00100111] = .ok (.daa, []) := by decide

/-- `CB 7C` BIT 7,H; `CB 86` RES 0,(HL); `CB 37` SWAP A (R82); `CB CB` SET 1,E (R83). -/
theorem test_decode_secondary :
    decode .two [0xCB, 0x7C] = .ok (.bit7H, []) ∧ decode .two [0xCB, 0x86] = .ok (.res0AtHL, []) ∧
      decode .two [0xCB, 0x37] = .ok (.swapA, []) ∧ decode .two [0xCB, 0xCB] = .ok (.set1E, []) := by decide

/-- `110 10 100` a16 CALL NC,a16; `001 11 000` e8 JR C,e8; `11 101 111` RST 28H (R81, R79). -/
theorem test_decode_control :
    decode .two [0b11010100, 0x34, 0x12] = .ok (.callNC 0x1234, []) ∧
      decode .two [0b00111000, 0xFC] = .ok (.jrC 0xFC, []) ∧ decode .two [0b11101111] = .ok (.rst28, []) := by decide

/-- Every row of the two opcode maps: the opcode byte the encoder has written out for a constructor is the one that decodes to
it. -/
theorem test_decode_every_row :
    (∀ op : Byte, op ≠ 0xCB → ∃ i ∈ (decode .two [op, 0, 0]).toOption, (encode .two i.1).head? = some op) ∧
      ∀ op : Byte, ∃ i ∈ (decode .two [0xCB, op]).toOption, encode .two i.1 = [0xCB, op] := by
  decide +kernel

/-- STOP drops its second byte and, with STOP_LENGTH 1, leaves it (R86, R251). -/
theorem test_decode_stop :
    decode .two [0x10, 0xCB, 0x00] = .ok (.stop, [0x00]) ∧ decode .one [0x10, 0xCB] = .ok (.stop, [0xCB]) := by decide

/-- A list that ends too soon is refused by name. -/
theorem test_decode_short :
    decode .two [] = .error .noOpcode ∧ decode .two [0xCB] = .error .noSecondaryOpcode ∧
      decode .two [0xC3, 0x00] = .error .noOperand := by decide

/-- opcode_table.json's numbering (R90): a primary opcode in the low byte, a secondary row with 0xCB high. -/
theorem test_decodeTableWord :
    decodeTableWord 8 0x41 = some .ldBC ∧ decodeTableWord 16 0xCB06 = some .rlcAtHL ∧
      decodeTableWord 8 0xD3 = some .illegalD3 ∧ decodeTableWord 8 0xC3 = some (.jp 0) := by decide

/-! ### 8-bit transfers: V1 to V12d -/

theorem test_v1 : got (fun t => (t.b, t.pc, t.cycles)) (run0 [0x41] fun s => { s with c := 0x5A }) =
    some (0x5A, 1, 4) := by decide
theorem test_v2 : got afpc (run0 [0x7F] fun s => withF { s with a := 0x33 } 0xF0) = some (0x33, 0xF0, 1, 4) := by decide
theorem test_v3 : got afpc (run0 [0x3E, 0x45] id) = some (0x45, 0, 2, 8) := by decide
theorem test_v4 : got (fun t => (t.h, t.l, t.cycles)) (run0 [0x66] fun s => withMem { s with h := 0xC0 } 0xC000 0x12) =
    some (0x12, 0, 8) := by decide
theorem test_v5 : got (fun t => (t.mem.read 0xC234, t.cycles)) (run0 [0x74] fun s => { s with h := 0xC2, l := 0x34 }) =
    some (0xC2, 8) := by decide
theorem test_v6 : got (fun t => (t.mem.read 0xC123, t.pc, t.cycles))
    (run0 [0x36, 0x99] fun s => { s with h := 0xC1, l := 0x23 }) = some (0x99, 2, 12) := by decide
theorem test_v7 : got (fun t => (t.mem.read 0xC000, t.cycles)) (run0 [0x02] fun s => { s with b := 0xC0, a := 1 }) =
    some (1, 8) := by decide
theorem test_v8 : got (fun t => (t.a, t.cycles))
    (run0 [0x1A] fun s => withMem { s with d := 0x01, e := 0x50 } 0x150 0xAA) = some (0xAA, 8) := by decide
theorem test_v9 : got (fun t => (t.mem.read 0xFFFF, t.hl, t.cycles))
    (run0 [0x22] fun s => { s with h := 0xFF, l := 0xFF, a := 0x55 }) = some (0x55, 0, 8) := by decide
theorem test_v10 : got (fun t => (t.a, t.hl, t.cycles)) (run0 [0x3A] id) = some (0x3A, 0xFFFF, 8) := by decide
theorem test_v11 : got (fun t => (t.mem.read 0xC000, t.pc, t.cycles))
    (run0 [0xEA, 0x00, 0xC0] fun s => { s with a := 0x42 }) = some (0x42, 3, 16) := by decide
theorem test_v12 : got (fun t => (t.a, t.pc, t.cycles)) (run0 [0xFA, 0x34, 0x12] fun s => withMem s 0x1234 0x77) =
    some (0x77, 3, 16) := by decide
theorem test_v12a : got (fun t => (t.mem.read 0xFF80, t.cycles)) (run0 [0xE0, 0x80] fun s => { s with a := 0x9C }) =
    some (0x9C, 12) := by decide
theorem test_v12b : got (fun t => (t.a, t.cycles)) (run0 [0xF0, 0x44] fun s => withMem s 0xFF44 0x90) =
    some (0x90, 12) := by decide
theorem test_v12c : got (fun t => (t.mem.read 0xFFFF, t.cycles)) (run0 [0xE2] fun s => { s with c := 0xFF, a := 0x1F }) =
    some (0x1F, 8) := by decide
theorem test_v12d : got (fun t => (t.a, t.cycles)) (run0 [0xF2] fun s => withMem { s with c := 0x0F } 0xFF0F 0xE1) =
    some (0xE1, 8) := by decide

/-! ### 8-bit arithmetic and logic: S1, V13 to V33 -/

theorem test_s1 : got afpc (run0 [0xC6, 0x2E] fun s => { s with a := 0x3C }) = some (0x6A, 0x20, 2, 8) := by decide
theorem test_v13 : got afpc (run0 [0x87] fun s => { s with a := 0x80 }) = some (0x00, 0x90, 1, 4) := by decide
theorem test_v14 : got afpc (run0 [0xD6, 0x01] id) = some (0xFF, 0x70, 2, 8) := by decide
theorem test_v15 : got afpc (run0 [0xD6, 0x10] fun s => { s with a := 0x10 }) = some (0x00, 0xC0, 2, 8) := by decide
theorem test_v16 : got afpc (run0 [0xCE, 0x00] fun s => withF { s with a := 0xFF } 0x10) = some (0x00, 0xB0, 2, 8) := by
  decide
theorem test_v17 : got afpc (run0 [0xCE, 0x0F] fun s => withF s 0x10) = some (0x10, 0x20, 2, 8) := by decide
theorem test_v18 : got afpc (run0 [0xDE, 0xFF] fun s => withF s 0x10) = some (0x00, 0xF0, 2, 8) := by decide
theorem test_v19 : got afpc (run0 [0x97] fun s => { s with a := 0x5A }) = some (0x00, 0xC0, 1, 4) := by decide
theorem test_v20 : got afpc (run0 [0x9F] fun s => withF { s with a := 0x5A } 0x10) = some (0xFF, 0x70, 1, 4) := by decide
theorem test_v21 : got afpc (run0 [0xE6, 0x0F] fun s => { s with a := 0xF0 }) = some (0x00, 0xA0, 2, 8) := by decide
theorem test_v22 : got afpc (run0 [0xEE, 0xFF] fun s => withF { s with a := 0x0F } 0x10) = some (0xF0, 0x00, 2, 8) := by
  decide
theorem test_v23 : got afpc (run0 [0xAF] fun s => withF { s with a := 0x77 } 0x70) = some (0x00, 0x80, 1, 4) := by decide
theorem test_v24 : got afpc (run0 [0xF6, 0x00] fun s => withF s 0x70) = some (0x00, 0x80, 2, 8) := by decide
theorem test_v25 : got afpc (run0 [0xFE, 0x40] fun s => { s with a := 0x3F }) = some (0x3F, 0x50, 2, 8) := by decide
theorem test_v26 : got afpc (run0 [0xBF] fun s => { s with a := 0x12 }) = some (0x12, 0xC0, 1, 4) := by decide
theorem test_v27 : got afpc (run0 [0x3C] fun s => withF { s with a := 0xFF } 0x10) = some (0x00, 0xB0, 1, 4) := by decide
theorem test_v28 : got (fun t => (t.b, t.flags.pack)) (run0 [0x05] fun s => { s with b := 0x10 }) = some (0x0F, 0x60) := by
  decide
theorem test_v30 : got (fun t => (t.b, t.flags.pack)) (run0 [0x05] id) = some (0xFF, 0x60) := by decide
theorem test_v31 : got (fun t => (t.mem.read 0xC000, t.flags.pack, t.cycles))
    (run0 [0x34] fun s => withMem { s with h := 0xC0 } 0xC000 0xFF) = some (0x00, 0xA0, 12) := by decide
theorem test_v32 : got (fun t => (t.mem.read 0xC000, t.flags.pack, t.cycles))
    (run0 [0x35] fun s => { s with h := 0xC0 }) = some (0xFF, 0x60, 12) := by decide
theorem test_v33 : got afpc (run0 [0x86] fun s => withMem { s with a := 0xFF, h := 0xC0 } 0xC000 0x01) =
    some (0x00, 0xB0, 1, 8) := by decide
/-- R178's example: OR is no copy of AND or XOR. -/
theorem test_r178 : got afpc (run0 [0xB0] fun s => { s with a := 0x5A, b := 0x0F }) = some (0x5F, 0x00, 1, 4) := by decide

/-! ### 16-bit transfers: V34 to V34k -/

theorem test_v34 : got (fun t => (t.b, t.c, t.pc, t.cycles)) (run0 [0x01, 0x34, 0x12] id) = some (0x12, 0x34, 3, 12) := by
  decide
theorem test_v34b : got (fun t => (t.mem.read 0xC100, t.mem.read 0xC101, t.cycles))
    (run0 [0x08, 0x00, 0xC1] fun s => { s with sp := 0xABCD }) = some (0xCD, 0xAB, 20) := by decide
theorem test_v34c : got (fun t => (t.mem.read 0xFFFF, t.mem.read 0x0000, t.cycles))
    (run0 [0x08, 0xFF, 0xFF] fun s => { s with sp := 0x1234 }) = some (0x34, 0x12, 20) := by decide
theorem test_v34d : got (fun t => (t.sp, t.cycles)) (run0 [0xF9] fun s => { s with h := 0xDF, l := 0xFF }) =
    some (0xDFFF, 8) := by decide
theorem test_v34e : got (fun t => (t.sp, t.mem.read 0xFFFC, t.mem.read 0xFFFD, t.cycles))
    (run0 [0xC5] fun s => { s with b := 0x12, c := 0x34, sp := 0xFFFE }) = some (0xFFFC, 0x34, 0x12, 16) := by decide
theorem test_v34f : got (fun t => (t.sp, t.mem.read 0xFFFF, t.mem.read 0x0000, t.cycles))
    (run0 [0xF5] fun s => withF { s with a := 0x12, sp := 0x0001 } 0xB0) = some (0xFFFF, 0xB0, 0x12, 16) := by decide
theorem test_v34g : got (fun t => (t.hl, t.sp, t.cycles))
    (run0 [0xE1] fun s => withMem (withMem { s with sp := 0xC000 } 0xC000 0x3C) 0xC001 0x5F) =
    some (0x5F3C, 0xC002, 12) := by decide
theorem test_v34h : got (fun t => (t.a, t.flags.pack, t.sp, t.cycles))
    (run0 [0xF1] fun s => withMem { s with sp := 0xC000, a := 7 } 0xC000 0xFF) = some (0x00, 0xF0, 0xC002, 12) := by decide
theorem test_v34i : got (fun t => (t.e, t.d, t.sp)) (run0 [0xD1] fun s => withMem { s with sp := 0xFFFF } 0xFFFF 0x22) =
    some (0x22, 0xD1, 0x0001) := by decide
theorem test_v34j : got (fun t => (t.hl, t.sp, t.flags.pack, t.cycles)) (run0 [0xF8, 0x01] fun s => { s with sp := 0xFFFF }) =
    some (0x0000, 0xFFFF, 0x30, 12) := by decide
theorem test_v34k : got (fun t => (t.hl, t.flags.pack)) (run0 [0xF8, 0x80] fun s => { s with sp := 0x1000 }) =
    some (0x0F80, 0x00) := by decide

/-! ### 16-bit arithmetic: S3, V35 to V42 -/

theorem test_s3 : got (fun t => (t.hl, t.flags.pack, t.cycles))
    (run0 [0x23] fun s => withF { s with h := 0xFF, l := 0xFF } 0xB0) = some (0x0000, 0xB0, 8) := by decide
theorem test_v35 : got (fun t => (t.bc, t.flags.pack, t.cycles)) (run0 [0x0B] fun s => withF s 0xF0) =
    some (0xFFFF, 0xF0, 8) := by decide
theorem test_v36 : got (fun t => (t.de, t.cycles)) (run0 [0x13] fun s => { s with e := 0xFF }) = some (0x0100, 8) := by
  decide
theorem test_v37 : got (fun t => (t.hl, t.flags.pack, t.cycles))
    (run0 [0x09] fun s => withF { s with h := 0x0F, l := 0xFF, c := 1 } 0x80) = some (0x1000, 0xA0, 8) := by decide
theorem test_v38 : got (fun t => (t.hl, t.flags.pack)) (run0 [0x29] fun s => { s with h := 0x80 }) =
    some (0x0000, 0x10) := by decide
theorem test_v39 : got (fun t => (t.hl, t.flags.pack))
    (run0 [0x39] fun s => withF { s with h := 0xFF, l := 0xFF, sp := 1 } 0x40) = some (0x0000, 0x30) := by decide
theorem test_v40 : got (fun t => (t.sp, t.flags.pack, t.cycles)) (run0 [0xE8, 0x08] fun s => withF { s with sp := 0xFFF8 } 0x80) =
    some (0x0000, 0x30, 16) := by decide
theorem test_v41 : got (fun t => (t.sp, t.flags.pack)) (run0 [0xE8, 0xFE] fun s => { s with sp := 0x0005 }) =
    some (0x0003, 0x30) := by decide
theorem test_v42 : got (fun t => (t.sp, t.flags.pack)) (run0 [0xE8, 0xFF] id) = some (0xFFFF, 0x00) := by decide

/-! ### Accumulator rotates, DAA, flag operations: V43 to V53 -/

theorem test_v43 : got afpc (run0 [0x07] fun s => withF { s with a := 0x85 } 0x80) = some (0x0B, 0x10, 1, 4) := by decide
theorem test_v43a : got afpc (run0 [0x0F] fun s => { s with a := 0x01 }) = some (0x80, 0x10, 1, 4) := by decide
theorem test_v43b : got afpc (run0 [0x17] fun s => withF { s with a := 0x95 } 0x10) = some (0x2B, 0x10, 1, 4) := by decide
theorem test_v43c : got afpc (run0 [0x1F] fun s => { s with a := 0x81 }) = some (0x40, 0x10, 1, 4) := by decide
theorem test_v45 : got afpc (run0 [0x27] fun s => { s with a := 0x9A }) = some (0x00, 0x90, 1, 4) := by decide
theorem test_v47 : got afpc (run0 [0x27] fun s => withF { s with a := 0x3D } 0x60) = some (0x37, 0x40, 1, 4) := by decide
theorem test_v49 : got afpc (run0 [0x2F] fun s => withF { s with a := 0x35 } 0x90) = some (0xCA, 0xF0, 1, 4) := by decide
theorem test_v50 : got afpc (run0 [0x37] fun s => withF s 0xE0) = some (0x00, 0x90, 1, 4) := by decide
theorem test_v51 : got afpc (run0 [0x3F] fun s => withF s 0x90) = some (0x00, 0x80, 1, 4) := by decide
theorem test_v53 : got id (run0 [0x00] id) = some { State.reset with pc := 1, cycles := 4 } := by decide

/-! ### The secondary space: V54 to V72 -/

theorem test_v54 : got (fun t => (t.b, t.flags.pack, t.pc, t.cycles)) (run0 [0xCB, 0x00] fun s => { s with b := 0x80 }) =
    some (0x01, 0x10, 2, 8) := by decide
theorem test_v55 : got (fun t => (t.c, t.flags.pack)) (run0 [0xCB, 0x09] fun s => withF s 0x10) = some (0x00, 0x80) := by
  decide
theorem test_v56 : got (fun t => (t.d, t.flags.pack)) (run0 [0xCB, 0x12] fun s => { s with d := 0x80 }) =
    some (0x00, 0x90) := by decide
theorem test_v57 : got (fun t => (t.e, t.flags.pack)) (run0 [0xCB, 0x1B] fun s => withF { s with e := 0x01 } 0x10) =
    some (0x80, 0x10) := by decide
theorem test_v58 : got afpc (run0 [0xCB, 0x27] fun s => { s with a := 0xC1 }) = some (0x82, 0x10, 2, 8) := by decide
theorem test_v59 : got afpc (run0 [0xCB, 0x2F] fun s => { s with a := 0x81 }) = some (0xC0, 0x10, 2, 8) := by decide
theorem test_v60 : got afpc (run0 [0xCB, 0x37] fun s => withF { s with a := 0xF1 } 0x10) = some (0x1F, 0x00, 2, 8) := by
  decide
theorem test_v62 : got afpc (run0 [0xCB, 0x3F] fun s => { s with a := 0x01 }) = some (0x00, 0x90, 2, 8) := by decide
theorem test_v63 : got (fun t => (t.h, t.flags.pack)) (run0 [0xCB, 0x7C] fun s => withF { s with h := 0x80 } 0x10) =
    some (0x80, 0x30) := by decide
theorem test_v65 : got (fun t => (t.mem.read 0xC000, t.flags.pack, t.cycles))
    (run0 [0xCB, 0x46] fun s => withMem { s with h := 0xC0 } 0xC000 0x01) = some (0x01, 0x20, 12) := by decide
theorem test_v66 : got afpc (run0 [0xCB, 0xBF] fun s => { s with a := 0xFF }) = some (0x7F, 0x00, 2, 8) := by decide
theorem test_v67 : got (fun t => (t.b, t.flags.pack)) (run0 [0xCB, 0xC0] fun s => withF s 0xF0) = some (0x01, 0xF0) := by
  decide
theorem test_v68 : got (fun t => (t.mem.read 0xC000, t.flags.pack, t.cycles))
    (run0 [0xCB, 0x16] fun s => withF (withMem { s with h := 0xC0 } 0xC000 0x80) 0x10) = some (0x01, 0x10, 16) := by decide
theorem test_v69 : got (fun t => (t.mem.read 0xC000, t.flags.pack))
    (run0 [0xCB, 0x36] fun s => withMem { s with h := 0xC0 } 0xC000 0xAB) = some (0xBA, 0x00) := by decide
theorem test_v70 : got (fun t => t.mem.read 0xC000)
    (run0 [0xCB, 0x86] fun s => withMem { s with h := 0xC0 } 0xC000 0xFF) = some 0xFE := by decide
theorem test_v71 : got (fun t => t.mem.read 0xC000) (run0 [0xCB, 0xFE] fun s => { s with h := 0xC0 }) = some 0x80 := by
  decide

/-! ### Control transfers: V73 to V91 -/

theorem test_v73 : got (fun t => (t.pc, t.cycles)) (run0 [0xC3, 0x00, 0x80] id) = some (0x8000, 16) := by decide
theorem test_v74 : got (fun t => (t.pc, t.cycles)) (run0 [0xC2, 0x00, 0x80] fun s => withF s 0x80) = some (0x0003, 12) := by
  decide
theorem test_v75 : got (fun t => (t.pc, t.cycles)) (run0 [0xDA, 0x00, 0x80] fun s => withF s 0x10) = some (0x8000, 16) := by
  decide
theorem test_v76 : got (fun t => (t.pc, t.cycles)) (run0 [0xE9] fun s => { s with h := 0x40 }) = some (0x4000, 4) := by
  decide
theorem test_v79 : got (fun t => (t.pc, t.cycles)) (step (load State.reset 0x100 [0x18, 0x80])) = some (0x0082, 12) := by
  decide
theorem test_v80 : got (fun t => (t.pc, t.cycles)) (step (load State.reset 0xFFFE [0x18, 0x05])) = some (0x0005, 12) := by
  decide
theorem test_v81 : got (fun t => (t.pc, t.cycles)) (step (load (withF State.reset 0x80) 0x200 [0x20, 0x10])) =
    some (0x0202, 8) := by decide
theorem test_v82 : got (fun t => (t.pc, t.cycles)) (step (load State.reset 0x200 [0x30, 0x10])) = some (0x0212, 12) := by
  decide
theorem test_v83 : got (fun t => (t.pc, t.sp, t.mem.read 0xCFFE, t.mem.read 0xCFFF, t.cycles))
    (step (load { State.reset with sp := 0xD000 } 5 [0xCD, 0x00, 0x30])) = some (0x3000, 0xCFFE, 8, 0, 24) := by decide
theorem test_v84 : got (fun t => (t.pc, t.sp, t.cycles)) (step (load { State.reset with sp := 0xD000 } 5 [0xCC, 0x00, 0x30])) =
    some (0x0008, 0xD000, 12) := by decide
theorem test_v86 : got (fun t => (t.pc, t.sp, t.cycles))
    (step (load (withMem { State.reset with sp := 0xCFFE } 0xCFFE 8) 0x3000 [0xC9])) = some (0x0008, 0xD000, 16) := by decide
theorem test_v87 : got (fun t => (t.pc, t.sp, t.cycles))
    (step (load (withF { State.reset with sp := 0xCFFE } 0x80) 0x3000 [0xC0])) = some (0x3001, 0xCFFE, 8) := by decide
theorem test_v88 : got (fun t => (t.pc, t.sp, t.cycles))
    (step (load (withMem (withF { State.reset with sp := 0xCFFE } 0x10) 0xCFFE 8) 0x3000 [0xD8])) =
    some (0x0008, 0xD000, 20) := by decide
theorem test_v89 : got (fun t => (t.pc, t.sp, t.ime, t.cycles))
    (step (load (withMem { State.reset with sp := 0xCFFE } 0xCFFE 8) 0x3000 [0xD9])) =
    some (0x0008, 0xD000, true, 16) := by decide
theorem test_v90 : got (fun t => (t.pc, t.sp, t.mem.read 0xFFFC, t.mem.read 0xFFFD, t.cycles))
    (step (load { State.reset with sp := 0xFFFE } 0x200 [0xEF])) = some (0x0028, 0xFFFC, 1, 2, 16) := by decide
theorem test_v91 : got (fun t => (t.pc, t.sp, t.mem.read 0xFFFE, t.mem.read 0xFFFF, t.cycles))
    (step (load State.reset 0x38 [0xFF])) = some (0x0038, 0xFFFE, 0x39, 0, 16) := by decide

/-! ### System and host operations: V92 to V110 -/

theorem test_v92 : got (fun t => (t.halted, t.pc, t.cycles)) (step (load State.reset 0x100 [0x76])) =
    some (true, 0x101, 4) := by decide
theorem test_v93 : got id (step { State.reset with halted := true, pc := 0x101 }) =
    some { State.reset with halted := true, pc := 0x101, cycles := 4 } := by decide
theorem test_v94 : got (fun t => (t.stopped, t.pc, t.cycles)) (step (load State.reset 0x100 [0x10, 0xCB])) =
    some (true, 0x102, 4) := by decide
theorem test_v95 : got (fun t => (t.stopped, t.pc, t.cycles))
    (step (load { State.reset with cfg := { Config.standard with stopLength := .one } } 0x100 [0x10])) =
    some (true, 0x101, 4) := by decide
theorem test_v97 : got (fun t => (t.ime, t.imePending)) (run0 [0xF3] fun s => { s with imePending := true }) =
    some (false, false) := by decide
theorem test_v98 : got (fun t => (t.ime, t.imePending)) (run0 [0xFB] id) = some (false, true) := by decide
theorem test_v99 : got (fun t => (t.ime, t.imePending)) (run0 [0xFB] fun s => { s with ime := true }) =
    some (true, true) := by decide
/-- S9 and P4: after EI then NOP, IME is set. -/
theorem test_s9 : got (fun t => (t.ime, t.imePending)) (run0 [0x00] fun s => { s with imePending := true }) =
    some (true, false) := by decide
theorem test_v100 : err (step (load State.reset 0x150 [0xD3])) = some (.malformedOpcode .primary 0xD3 0x150) := by decide
theorem test_v103 : err (run0 [0x3C] fun s =>
    { s with cfg := { s.cfg with costChanges := [⟨⟨.primary, 0x3C⟩, none⟩] } }) =
    some (.malformedOpcode .primary 0x3C 0) := by decide
theorem test_v104 : err (run0 [0x7E] fun s =>
    { s with h := 0xFE, l := 0xA0, cfg := { s.cfg with faults := [⟨0xFEA0, 0xFEA0, true, false, 7⟩] } }) =
    some (.memoryFault 0xFEA0 .read 7) := by decide
theorem test_v105 : err (step { State.reset with pc := 0x8000, cfg :=
    { Config.standard with faults := [⟨0x8000, 0x8000, true, false, 0⟩] } }) =
    some (.memoryFault 0x8000 .fetch 0) := by decide
theorem test_v106 : service 0x40 State.reset = .refused .interruptNotServiced := rfl
theorem test_v107 : service 0x40 { State.reset with ime := true, stopped := true } = .refused .interruptNotServiced :=
  rfl
theorem test_v108 : got (fun t => ((t.halted, t.ime), (t.sp, t.mem.read 0xCFFE, t.mem.read 0xCFFF), t.pc, t.cycles))
    (service 0x50 { State.reset with ime := true, halted := true, pc := 2, sp := 0xD000 }) =
    some ((false, false), (0xCFFE, 2, 0), 0x50, 20) := by decide
theorem test_v109 : wake { State.reset with stopped := true, ime := true, pc := 2 } =
    { State.reset with ime := true, pc := 2 } := by decide
theorem test_v110 : wake { State.reset with halted := true } = State.reset := by decide

/-- R290: in machine cycles the default costs are a quarter. -/
theorem test_r290 : got (fun t => t.cycles) (run0 [0xCD, 0x00, 0x30] fun s =>
    { s with cfg := Config.inUnit .machineCycle }) = some 6 := by decide

/-- R60: a store to a device address reaches the device and not RAM. -/
theorem test_r60 : got (fun t => (t.io, t.mem.read 0xFF00)) (run0 [0xE2] fun s =>
    { s with a := 0x1F, cfg := { s.cfg with devices := [⟨0xFF00, 0xFF7F⟩] } }) =
    some ([.write 0xFF00 0x1F], 0) := by decide

/-- The word the host places is the instruction the first step runs: LD B,C, RLC (HL), and an illegal row. -/
theorem test_withFetchWord :
    got (fun t => (t.pc, t.cycles)) (step (State.reset.withFetchWord 8 0x41)) = some (1, 4) ∧
      got (fun t => (t.pc, t.cycles)) (step (State.reset.withFetchWord 16 0xCB06)) = some (2, 16) ∧
      err (step (State.reset.withFetchWord 8 0xD3)) = some (.malformedOpcode .primary 0xD3 0) := by decide

/-! ### Witnesses: for each statement with hypotheses, a state and operands that meet them all -/

/-- A machine with a device at 0xFF00 to 0xFF7F and a hole at 0xFEA0 to 0xFEFF, the stack at 0xD000 and HL = 0xC000. -/
def board : State :=
  { State.reset with
    h := 0xC0, sp := 0xD000, pc := 0x100,
    cfg := { Config.standard with faults := [⟨0xFEA0, 0xFEFF, true, true, 7⟩], devices := [⟨0xFF00, 0xFF7F⟩] } }

/-- The board with bytes at PC. -/
def boardAt (bs : List Byte) : State := load board 0x100 bs

theorem board_inv : board.Inv := ⟨rfl, rfl⟩

theorem costsComplete_standard (s : State) (h : s.cfg.costChanges = []) (h' : s.cfg.cycleUnit = .tState) :
    s.cfg.costsComplete := by
  rintro ⟨sp, op⟩ hk
  have h2 : ∀ op : Byte, (defaultCost ⟨.secondary, op⟩).isSome = true := by decide +kernel
  have h1 : ∀ op : Byte, op ≠ 0xCB ∧ op ∉ illegalOpcodes → (defaultCost ⟨.primary, op⟩).isSome = true := by
    decide +kernel
  cases sp with
  | primary => simpa [costOf, h, h'] using h1 op (hk rfl)
  | secondary => simpa [costOf, h, h'] using h2 op

/-- A running core with an instruction whose key has a cost record; the step completes and moves no PC by transfer. -/
theorem witness_StepRunsDecodedInstruction : ∃ t, (boardAt [0x06, 0x12]).running = true ∧
    (boardAt [0x06, 0x12]).fetchesAt 0x100 [0x06, 0x12] ∧ decode .two [0x06, 0x12] = .ok (.ldBImm 0x12, []) ∧
    costOf (boardAt [0x06, 0x12]).cfg (keyOfBytes [0x06, 0x12]) = some { base := 8, notTaken := none } ∧
    step (boardAt [0x06, 0x12]) = .next t :=
  ⟨_, rfl, ⟨⟨rfl, rfl, rfl⟩, ⟨rfl, rfl, rfl⟩, trivial⟩, rfl, rfl, rfl⟩

theorem witness_PcAdvancesByLength : ∃ t, (boardAt [0xCA, 0x00, 0x80]).running = true ∧
    (boardAt [0xCA, 0x00, 0x80]).fetchesAt 0x100 [0xCA, 0x00, 0x80] ∧
    decode .two [0xCA, 0x00, 0x80] = .ok (.jpZ 0x8000, []) ∧ (Form.jpCC .z 0x8000).takes board = false ∧
    step (boardAt [0xCA, 0x00, 0x80]) = .next t ∧ t.pc = 0x103 :=
  ⟨_, rfl, ⟨⟨rfl, rfl, rfl⟩, ⟨rfl, rfl, rfl⟩, ⟨rfl, rfl, rfl⟩, trivial⟩, rfl, rfl, rfl, rfl⟩

theorem witness_DecodingIsTotal : (0xED : Byte) ∈ illegalOpcodes ∧ Instr.illegalED.wf = false ∧
    decode .two [0xCB, 0x7C, 0x00] = .ok (.bit7H, [0x00]) := by decide

theorem witness_EncodeDecodeRoundTrip : decode .one [0x10, 0x55] = .ok (.stop, [0x55]) ∧
    decode .two [0x10, 0x55] = .ok (.stop, []) ∧ decode .two [0x3E, 0x55] = .ok (.ldAImm 0x55, []) := by decide

/-- A next state, a refused fetch, and an illegal opcode where every key has a record. -/
theorem witness_CostsDoNotMatter :
    State.reset.cfg.costsComplete ∧ board.cfg.costsComplete ∧ (∃ t, step State.reset = .next t) ∧
    step { board with pc := 0xFEA0 } = .fault (.memoryFault 0xFEA0 .fetch 7) ∧
    step (boardAt [0xED]) = .fault (.malformedOpcode .primary 0xED 0x100) :=
  ⟨costsComplete_standard _ rfl rfl, costsComplete_standard _ rfl rfl, ⟨_, rfl⟩, rfl, rfl⟩

theorem witness_IdleStepChangesOnlyIme :
    { board with halted := true }.halted = true ∧ { board with stopped := true }.stopped = true := ⟨rfl, rfl⟩

theorem witness_EnableInterruptLatency : (boardAt [0xFB, 0x00]).running = true ∧
    (boardAt [0xFB, 0x00]).ime = false ∧ (boardAt [0xFB, 0x00]).imePending = false ∧
    (boardAt [0xFB, 0x00]).fetchesAt 0x100 [0xFB, 0x00] ∧
    (costOf board.cfg { space := .primary, opcode := 0xFB }).isSome = true ∧
    (costOf board.cfg { space := .primary, opcode := 0x00 }).isSome = true :=
  ⟨rfl, rfl, rfl, ⟨⟨rfl, rfl, rfl⟩, ⟨rfl, rfl, rfl⟩, trivial⟩, rfl, rfl⟩

/-- The opcode byte, the byte after the escape, and the last of two operand bytes at 0xFEA0, which no read may touch. -/
theorem witness_FetchFaultStops :
    board.cfg.faultInfo 0xFEA0 .fetch = some 7 ∧ decode .two [] = .error .noOpcode ∧
    (load board 0xFE9F [0xCB]).fetchesAt 0xFE9F [0xCB] ∧ decode .two [0xCB] = .error .noSecondaryOpcode ∧
    (load board 0xFE9E [0xC3, 0x34]).fetchesAt 0xFE9E [0xC3, 0x34] ∧ decode .two [0xC3, 0x34] = .error .noOperand ∧
    (costOf board.cfg { space := .primary, opcode := 0xC3 }).isSome = true ∧
    step { board with pc := 0xFEA0 } = .fault (.memoryFault 0xFEA0 .fetch 7) :=
  ⟨rfl, rfl, ⟨⟨rfl, rfl, rfl⟩, trivial⟩, rfl, ⟨⟨rfl, rfl, rfl⟩, ⟨rfl, rfl, rfl⟩, trivial⟩, rfl, rfl, rfl⟩

/-- The board without cost records for INC A and RLC B. -/
def uncosted (bs : List Byte) : State :=
  { boardAt bs with
    cfg := { board.cfg with
      costChanges := [⟨{ space := .primary, opcode := 0x3C }, none⟩, ⟨{ space := .secondary, opcode := 0x00 }, none⟩] } }

theorem witness_MissingCycleRecordStops :
    (uncosted [0x3C]).running = true ∧ (uncosted [0x3C]).fetchesAt 0x100 [0x3C] ∧
    costOf (uncosted []).cfg { space := .primary, opcode := 0x3C } = none ∧
    (uncosted [0xCB, 0x00]).fetchesAt 0x100 [0xCB, 0x00] ∧
    costOf (uncosted []).cfg { space := .secondary, opcode := 0x00 } = none :=
  ⟨rfl, ⟨⟨rfl, rfl, rfl⟩, trivial⟩, rfl, ⟨⟨rfl, rfl, rfl⟩, ⟨rfl, rfl, rfl⟩, trivial⟩, rfl⟩

theorem witness_IllegalOpcodesStop : Instr.illegalD3.form = .illegal 0xD3 ∧ (boardAt [0xD3]).running = true ∧
    (boardAt [0xD3]).fetchesAt 0x100 [0xD3] := ⟨rfl, rfl, ⟨rfl, rfl, rfl⟩, trivial⟩

theorem witness_StepAnswersUnlessIllegal : State.reset.cfg.faultless ∧ State.reset.cfg.costsComplete ∧
    State.reset.running = true ∧ State.reset.peek State.reset.pc ∉ illegalOpcodes :=
  ⟨rfl, costsComplete_standard _ rfl rfl, rfl, by decide⟩

/-- The second byte of a push is refused where SP is 0xFEA1: the first store is at 0xFE9F. -/
theorem witness_AccessesDecideOutcome : Instr.pushBC.wf = true ∧
    board.cfg.firstFault (Instr.pushBC.form.accesses board) = none ∧
    State.cfg { board with sp := 0xFEA1 } = board.cfg ∧
    board.cfg.firstFault (Instr.pushBC.form.accesses { board with sp := 0xFEA1 }) =
      some (.memoryFault 0xFEA0 .write 7) := by decide

/-- RLC (HL) on a device: a read, then a write. -/
theorem witness_AccessesMadeInOrder : ∃ t, exec .rlcAtHL { board with h := 0xFF } = .next t ∧
    t.io.map IoEvent.access = [(.write, 0xFF00), (.read, 0xFF00)] := ⟨_, rfl, rfl⟩

/-- LD (a16),A to the device: one access reaches it. -/
theorem witness_StepMakesAtMostFiveAccesses : ∃ t, step { boardAt [0xEA, 0x00, 0xFF] with a := 1 } = .next t ∧
    t.io.length = 1 := ⟨_, rfl, rfl⟩

/-- LD (HL),d8 with HL on the byte after it, where PC comes to stand. -/
theorem witness_FetchSeesEarlierWrite :
    let s : State := { boardAt [0x36, 0x3C] with h := 0x01, l := 0x02 }
    ∃ t, s.Inv ∧ s.running = true ∧ s.fetchesAt 0x100 [0x36, 0x3C] ∧
      decode .two [0x36, 0x3C] = .ok (.ldAtHLImm 0x3C, []) ∧ step s = .next t ∧
      ((0x102 : Word), (0x3C : Byte)) ∈ ((Instr.ldAtHLImm 0x3C).form.storeAddrs s).zip
        ((Instr.ldAtHLImm 0x3C).form.storeBytes s) ∧
      s.cfg.isDevice 0x102 = false ∧ s.cfg.faultInfo 0x102 .fetch = none ∧ t.pc = 0x102 :=
  ⟨_, ⟨rfl, rfl⟩, rfl, ⟨⟨rfl, rfl, rfl⟩, ⟨rfl, rfl, rfl⟩, trivial⟩, rfl, rfl, by decide, rfl, rfl, rfl⟩

/-- A store of two bytes: the high byte is the one above. -/
theorem test_storeBytes : (Form.ldAbsSP 0xFFFF).storeAddrs board = [0xFFFF, 0x0000] ∧
    (Form.ldAbsSP 0xFFFF).storeBytes board = [0x00, 0xD0] := by decide

/-- The clauses of the byte accesses at the edges of the hole and of the device. -/
theorem witness_ByteReads : board.cfg.faultInfo 0xFEA0 .read = some 7 ∧ board.cfg.faultInfo 0xFE9F .fetch = none ∧
    board.cfg.isDevice 0xFE9F = false ∧ board.cfg.faultInfo 0xFF00 .read = none ∧
    board.cfg.isDevice 0xFF00 = true := by decide

theorem witness_ByteWrites : board.mem.wf = true ∧ board.cfg.faultInfo 0xFEFF .write = some 7 ∧
    board.cfg.faultInfo 0xFF80 .write = none ∧ board.cfg.isDevice 0xFF80 = false ∧
    board.cfg.faultInfo 0xFF7F .write = none ∧ board.cfg.isDevice 0xFF7F = true := by decide

/-- A word at 0xFFFF: its high byte is at 0x0000. -/
theorem witness_WordAccesses : board.mem.wf = true ∧ board.ramAt 0xFFFF ∧ board.ramAt (0xFFFF + 1#16) :=
  ⟨rfl, ⟨rfl, rfl, rfl⟩, ⟨rfl, rfl, rfl⟩⟩

theorem witness_InvariantAtReset : Memory.wf [(0x0000, 0xC3), (0xFFFF, 0x01)] = true := by decide

theorem witness_StepKeepsInvariant : ∃ t, (boardAt [0x76]).Inv ∧ step (boardAt [0x76]) = .next t ∧ t.halted = true :=
  ⟨_, ⟨rfl, rfl⟩, rfl, rfl⟩

theorem witness_HostRunsKeepInvariant : ∃ t, board.Inv ∧
    actAll [.store 0x100 0x76, .step, .service 0x40, .wake, .create .postBoot] board = .next t :=
  ⟨_, ⟨rfl, rfl⟩, rfl⟩

theorem witness_WakeOperation : board.running = true := rfl

/-- Refused, accepted, and ended by the refused second byte of the push. -/
theorem witness_InterruptService : board.ime = false ∧ { board with ime := true, stopped := true }.stopped = true ∧
    { board with ime := true }.pushOk ∧
    board.cfg.firstFault [(.write, 0xFEA1#16 - 2#16), (.write, 0xFEA1#16 - 2#16 + 1#16)] =
      some (.memoryFault 0xFEA0 .write 7) := ⟨rfl, rfl, ⟨rfl, rfl⟩, by decide⟩

/-- The same state serves the pairs of a push and a pop: here the stack wraps past 0x0000. -/
theorem witness_ServiceThenRetiResumes : let s : State := { board with ime := true, sp := 0x0001 }
    s.Inv ∧ s.ime = true ∧ s.stopped = false ∧ s.ramAt (s.sp - 2#16) ∧ s.ramAt (s.sp - 2#16 + 1#16) :=
  ⟨⟨rfl, rfl⟩, rfl, rfl, ⟨rfl, rfl, rfl⟩, ⟨rfl, rfl, rfl⟩⟩

theorem witness_PushPopTransfers : let s : State := { board with sp := 0x0001 }
    Instr.pushAF.form = .push .af ∧ Instr.popBC.form = .pop .bc ∧ s.Inv ∧ s.ramAt (s.sp - 2#16) ∧
      s.ramAt (s.sp - 2#16 + 1#16) := ⟨rfl, rfl, ⟨rfl, rfl⟩, ⟨rfl, rfl, rfl⟩, ⟨rfl, rfl, rfl⟩⟩

theorem witness_CallReturnResumes : (Instr.call 0x1234).form = .call 0x1234 ∧
    (Instr.rst38.form = .rst 7 ∧ (0x38 : Word) = BitVec.ofNat 16 (8 * (7 : Fin 8).val)) ∧ board.Inv ∧
    board.ramAt (board.sp - 2#16) ∧ board.ramAt (board.sp - 2#16 + 1#16) :=
  ⟨rfl, ⟨rfl, rfl⟩, ⟨rfl, rfl⟩, ⟨rfl, rfl, rfl⟩, ⟨rfl, rfl, rfl⟩⟩

/-- Each named instruction completes. -/
theorem witness_ControlBitsChangeOnlyWhereNamed : ∃ t u v w x y, exec .halt board = .next t ∧ exec .stop board = .next u ∧
    exec .ei board = .next v ∧ exec .di board = .next w ∧ exec .reti board = .next x ∧ exec .nop board = .next y :=
  ⟨_, _, _, _, _, _, rfl, rfl, rfl, rfl, rfl, rfl⟩

theorem witness_FlagsFollowTable : ∃ t u, exec .daa board = .next t ∧ exec .bit7AtHL board = .next u :=
  ⟨_, _, rfl, rfl⟩

/-- ADC reads the carry and no other flag. -/
theorem witness_FlagsReadOnlyWhereNamed : ∃ t, Instr.adcAB.form.flagsRead.agreeOn board.flags (Flags.unpack 0xE0) ∧
    exec .adcAB board = .next t := by
  exact ⟨_, ⟨by decide, by decide, by decide, by decide⟩, rfl⟩

theorem witness_RegistersChangeOnlyWhereNamed : ∃ t, exec .popDE board = .next t ∧
    Reg8.h ∉ Instr.popDE.form.regsWritten ∧ Instr.ldBC.form.writesSP = false := ⟨_, rfl, by decide, rfl⟩

theorem witness_OnlyTransfersMovePc : ∃ t u, exec (.jpZ 0x1234) board = .next t ∧ exec (.jpNZ 0x1234) board = .next u ∧
    (Instr.jpZ 0x1234).form.takes board = false ∧ (Instr.jpNZ 0x1234).form.takes board = true :=
  ⟨_, _, rfl, rfl, rfl, rfl⟩

/-- A store to RAM, a store to the device, and an instruction that stores nothing. -/
theorem witness_MemoryChangesOnlyWhereStored : ∃ t u v, board.mem.wf = true ∧ exec (.ldAtHLImm 5) board = .next t ∧
    exec (.ldAtAbsA 0xFF00) board = .next u ∧ exec .incAtHL { board with h := 0xFF } = .next v ∧
    (Instr.ldAtAbsA 0xFF00).form.storeAddrs board = [0xFF00] ∧ board.cfg.isDevice 0xFF00 = true ∧
    Instr.nop.form.storeAddrs board = [] := ⟨_, _, _, rfl, rfl, rfl, rfl, rfl, rfl, rfl⟩

theorem witness_DecimalAdjustCorrectsBcd : let s : State := { board with a := 0x99, b := 0x01 }
    srcOk (.reg .b) s ∧ bcdValid s.a ∧ bcdValid (srcValue (.reg .b) s) ∧ Instr.addAB.form = .alu .add (.reg .b) ∧
      Instr.subB.form = .alu .sub (.reg .b) :=
  ⟨trivial, ⟨by decide, by decide⟩, ⟨by decide, by decide⟩, rfl, rfl⟩

/-- One row of each form of the 8-bit transfers, on plain RAM. -/
theorem witness_Load8Registers : Instr.ldHL.form = .ldRegReg .h .l ∧ (Instr.ldAImm 3).form = .ldRegImm .a 3 ∧
    Instr.ldHAtHL.form = .ldRegInd .h ∧ Instr.ldAtHLL.form = .ldIndReg .l ∧ (Instr.ldAtHLImm 3).form = .ldIndImm 3 ∧
    board.cfg.faultInfo board.hl .read = none ∧ board.cfg.faultInfo board.hl .write = none := by decide

theorem witness_Load8ThroughPairs : Instr.ldAAtHLInc.form = .ldAPtr .hlInc ∧ Instr.ldAtHLDecA.form = .ldPtrA .hlDec ∧
    Instr.ldAAtBC.form = .ldAPtr .bc ∧ Instr.ldAtDEA.form = .ldPtrA .de ∧
    State.cfg { board with h := 0xFF, l := 0xFF } = board.cfg ∧ board.cfg.faultInfo 0xFFFF .read = none ∧
    board.cfg.faultInfo 0x0000 .write = none := by decide

theorem witness_Load8AbsoluteAndHighPage : board.cfg.faultInfo 0xFE9F .write = none ∧
    board.cfg.faultInfo (BitVec.ofNat 16 (0xFF00 + (0xFF : Byte).toNat)) .read = none ∧
    board.cfg.faultInfo (BitVec.ofNat 16 (0xFF00 + board.c.toNat)) .write = none := by decide

theorem witness_Load16 : board.cfg.faultInfo 0xFFFF .write = none ∧
    board.cfg.faultInfo (0xFFFF + 1#16) .write = none := by decide

theorem witness_PushAndPop : Instr.pushAF.form = .push .af ∧ Instr.popHL.form = .pop .hl ∧
    { board with sp := 0x0001 }.pushOk ∧ { board with sp := 0xFFFF }.popOk := ⟨rfl, rfl, ⟨rfl, rfl⟩, ⟨rfl, rfl⟩⟩

/-- The three kinds of second operand of an 8-bit operator. -/
theorem witness_AddWithCarry : Instr.adcAAtHL.form = .alu .adc .ind ∧ (Instr.addAImm 1).form = .alu .add (.imm 1) ∧
    srcOk .ind board ∧ srcOk (.imm 1) board := ⟨rfl, rfl, rfl, trivial⟩

theorem witness_SubtractAndCompare : Instr.sbcAA.form = .alu .sbc (.reg .a) ∧ Instr.cpAtHL.form = .alu .cp .ind ∧
    (Instr.subImm 1).form = .alu .sub (.imm 1) ∧ srcOk .ind board := ⟨rfl, rfl, rfl, rfl⟩

theorem witness_BitwiseLogic : Instr.andAtHL.form = .alu .and .ind ∧ Instr.orB.form = .alu .or (.reg .b) ∧
    (Instr.xorImm 1).form = .alu .xor (.imm 1) ∧ srcOk .ind board := ⟨rfl, rfl, rfl, rfl⟩

theorem witness_IncrementDecrement8 : Instr.incAtHL.form = .inc8 .ind ∧ Instr.decB.form = .dec8 (.reg .b) ∧
    locOk .ind board ∧ locOk (.reg .b) board := ⟨rfl, rfl, ⟨rfl, rfl⟩, trivial⟩

theorem witness_Arithmetic16 : Instr.addHLSP.form = .addHL .sp ∧ Instr.incHL.form = .inc16 .hl ∧
    Instr.decBC.form = .dec16 .bc := ⟨rfl, rfl, rfl⟩

theorem witness_ShiftsAndRotates : Instr.swapAtHL.form = .shift .swap .ind ∧ Instr.rrC.form = .shift .rr (.reg .c) ∧
    locOk .ind board := ⟨rfl, rfl, ⟨rfl, rfl⟩⟩

theorem witness_BitTestResetSet : Instr.bit7AtHL.form = .bit 7 .ind ∧ Instr.res0A.form = .res 0 (.reg .a) ∧
    Instr.set7AtHL.form = .set 7 .ind ∧ locReadOk .ind board ∧ locOk .ind board := ⟨rfl, rfl, rfl, rfl, ⟨rfl, rfl⟩⟩

theorem witness_Jumps : (Instr.jp 1).form = .jp 1 ∧ (Instr.jpNZ 1).form = .jpCC .nz 1 ∧ Instr.jpHL.form = .jpHL ∧
    (Instr.jr 0x80).form = .jr 0x80 ∧ (Instr.jrC 0x7F).form = .jrCC .c 0x7F := ⟨rfl, rfl, rfl, rfl, rfl⟩

/-- On the board no flag is set: NZ holds and C does not. -/
theorem witness_CallsAndReturns : (Instr.call 1).form = .call 1 ∧ (Instr.callNZ 1).form = .callCC .nz 1 ∧
    (Instr.callC 1).form = .callCC .c 1 ∧ Instr.rst00.form = .rst 0 ∧ Instr.ret.form = .ret ∧
    Instr.retNC.form = .retCC .nc ∧ Instr.retZ.form = .retCC .z ∧ Instr.reti.form = .reti ∧ board.pushOk ∧ board.popOk ∧
    board.flags.z = false ∧ board.flags.c = false :=
  ⟨rfl, rfl, rfl, rfl, rfl, rfl, rfl, rfl, ⟨rfl, rfl⟩, ⟨rfl, rfl⟩, rfl, rfl⟩

end Sys2Proof.Tests
end

section
/-! The reset profiles, the flag codec and the register views (10_state.md R23 to R28, R38, R39). -/

namespace Sys2Proof.Machine

/-- Settles O1: each profile's fields are the literals of its arm of `State.create`. -/
theorem resetProfiles : Obligations.ResetProfiles := by
  have hzero : Flags.pack { z := false, n := false, h := false, c := false } = 0x00 := by decide
  have hboot : Flags.pack { z := true, n := false, h := true, c := true } = 0xB0 := by decide
  refine ⟨fun cfg mem io => ?_, fun cfg mem io => ?_, Config.standard, [], [], rfl⟩
  · exact ⟨⟨rfl, rfl, rfl, rfl, rfl, rfl, rfl⟩, ⟨rfl, rfl, rfl, rfl, hzero⟩, ⟨rfl, rfl⟩,
      rfl, rfl, rfl, rfl, rfl⟩
  · exact ⟨⟨rfl, rfl, rfl, rfl, rfl, rfl, rfl⟩, ⟨rfl, rfl, rfl, rfl, hboot⟩, ⟨rfl, rfl⟩,
      rfl, rfl, rfl, rfl, rfl⟩

/-! ### The flag codec (R27, R28) -/

theorem getLsbD_bitAt {i j : Nat} (hj : j < 8) (b : Bool) : (bitAt i b).getLsbD j = (b && decide (j = i)) := by
  cases b with
  | false => simp [bitAt]
  | true =>
    rw [Bool.eq_iff_iff]
    simp only [bitAt, if_true, BitVec.getLsbD_shiftLeft, BitVec.getLsbD_one, Bool.and_eq_true, Bool.not_eq_true',
      decide_eq_true_eq, decide_eq_false_iff_not, Bool.true_and]
    omega

/-- Each bit of a packed byte is the flag that stands there, and the low nibble is clear. -/
theorem Flags.getLsbD_pack (f : Flags) {j : Nat} (hj : j < 8) : f.pack.getLsbD j =
    (f.z && decide (j = 7) || f.n && decide (j = 6) || f.h && decide (j = 5) || f.c && decide (j = 4)) := by
  simp only [Flags.pack, BitVec.getLsbD_or, getLsbD_bitAt hj]

theorem Flags.toNat_pack (f : Flags) :
    f.pack.toNat = 128 * f.z.toNat + 64 * f.n.toNat + 32 * f.h.toNat + 16 * f.c.toNat := by
  obtain ⟨z, n, h, c⟩ := f
  revert z n h c
  decide

@[simp] theorem Flags.unpack_pack (f : Flags) : Flags.unpack f.pack = f := by
  simp [Flags.unpack, Flags.getLsbD_pack, -BitVec.getLsbD_eq_getElem]

/-- Bit by bit: the four flag bits go there and back, the low nibble is cleared. -/
theorem Flags.pack_unpack (v : Byte) : (Flags.unpack v).pack = v &&& 0xF0 := by
  refine BitVec.eq_of_getLsbD_eq fun j hj => ?_
  rw [Flags.getLsbD_pack _ hj, BitVec.getLsbD_and]
  interval_cases j <;> simp [Flags.unpack]

/-- Settles O28, from the value of a packed byte and the two round trips of the codec. -/
theorem flagCodec : Obligations.FlagCodec :=
  ⟨Flags.toNat_pack, fun _ => rfl, Flags.pack_unpack, Flags.unpack_pack⟩

/-! ### The register pairs as views (R24 to R26) -/

/-- The low nibble of F is zero (R25). -/
theorem State.toNat_af_mod (s : State) : s.af.toNat % 16 = 0 := by
  rw [State.af, toNat_mkWord, Flags.toNat_pack]
  omega

/-- The flags written with a word are bits 7 to 4 of the word (R26). -/
theorem Flags.unpack_loByte (w : Word) : Flags.unpack (loByte w) =
    { z := w.toNat.testBit 7, n := w.toNat.testBit 6, h := w.toNat.testBit 5, c := w.toNat.testBit 4 } := by
  simp only [Flags.unpack, loByte, BitVec.getLsbD_setWidth]
  rfl

/-- Settles O29: the accessors by their definitions, the views by the arithmetic of `mkWord`, `hiByte` and `loByte`. -/
theorem pairViews : Obligations.PairViews := by
  intro s v w
  refine ⟨⟨rfl, rfl, rfl, rfl, rfl, rfl, rfl⟩, ⟨rfl, rfl, rfl, rfl, rfl, rfl, rfl⟩,
    ⟨rfl, rfl, rfl, rfl, rfl, rfl, rfl, rfl⟩, ⟨rfl, rfl, rfl, rfl, rfl, rfl, rfl, rfl⟩, ?_, ?_, ?_, ?_, ?_⟩
  · exact ⟨toNat_mkWord .., toNat_mkWord .., toNat_mkWord .., toNat_mkWord .., s.toNat_af_mod⟩
  · rw [State.setBC, hiByte_eq_ofNat, loByte_eq_ofNat]
  · rw [State.setDE, hiByte_eq_ofNat, loByte_eq_ofNat]
  · rw [State.setHL, hiByte_eq_ofNat, loByte_eq_ofNat]
  · rw [State.setAF, hiByte_eq_ofNat, Flags.unpack_loByte]

end Sys2Proof.Machine
end

section
/-! What the shared operand and stack operations leave alone, and what an instruction leaves alone of the control bits,
the registers and the parameters (10_state.md R22, R30, R32; 48_system.md R254, R255). -/

namespace Sys2Proof.Machine

/-- The state with other flags. -/
def State.setFlags (s : State) (fl : Flags) : State := { s with flags := fl }

/-! ### Operand reads and writes, pops and pushes: one lemma per field -/

@[simp] theorem srcAfter_sp (x : Src8) (s : State) : (srcAfter x s).sp = s.sp := by cases x <;> simp [srcAfter]
@[simp] theorem srcAfter_ime (x : Src8) (s : State) : (srcAfter x s).ime = s.ime := by cases x <;> simp [srcAfter]
@[simp] theorem srcAfter_imePending (x : Src8) (s : State) : (srcAfter x s).imePending = s.imePending := by
  cases x <;> simp [srcAfter]
@[simp] theorem srcAfter_halted (x : Src8) (s : State) : (srcAfter x s).halted = s.halted := by
  cases x <;> simp [srcAfter]
@[simp] theorem srcAfter_stopped (x : Src8) (s : State) : (srcAfter x s).stopped = s.stopped := by
  cases x <;> simp [srcAfter]
@[simp] theorem srcAfter_cfg (x : Src8) (s : State) : (srcAfter x s).cfg = s.cfg := by cases x <;> simp [srcAfter]
@[simp] theorem getReg_srcAfter (x : Src8) (s : State) (r : Reg8) : (srcAfter x s).getReg r = s.getReg r := by
  cases x <;> simp [srcAfter]

@[simp] theorem locAfter_sp (x : Loc8) (s : State) : (locAfter x s).sp = s.sp := by cases x <;> simp [locAfter]
@[simp] theorem locAfter_ime (x : Loc8) (s : State) : (locAfter x s).ime = s.ime := by cases x <;> simp [locAfter]
@[simp] theorem locAfter_imePending (x : Loc8) (s : State) : (locAfter x s).imePending = s.imePending := by
  cases x <;> simp [locAfter]
@[simp] theorem locAfter_halted (x : Loc8) (s : State) : (locAfter x s).halted = s.halted := by
  cases x <;> simp [locAfter]
@[simp] theorem locAfter_stopped (x : Loc8) (s : State) : (locAfter x s).stopped = s.stopped := by
  cases x <;> simp [locAfter]
@[simp] theorem locAfter_cfg (x : Loc8) (s : State) : (locAfter x s).cfg = s.cfg := by cases x <;> simp [locAfter]
@[simp] theorem getReg_locAfter (x : Loc8) (s : State) (r : Reg8) : (locAfter x s).getReg r = s.getReg r := by
  cases x <;> simp [locAfter]

@[simp] theorem locStored_flags (x : Loc8) (s : State) (v : Byte) : (locStored x s v).flags = s.flags := by
  cases x <;> simp [locStored]
@[simp] theorem locStored_sp (x : Loc8) (s : State) (v : Byte) : (locStored x s v).sp = s.sp := by
  cases x <;> simp [locStored]
@[simp] theorem locStored_ime (x : Loc8) (s : State) (v : Byte) : (locStored x s v).ime = s.ime := by
  cases x <;> simp [locStored]
@[simp] theorem locStored_imePending (x : Loc8) (s : State) (v : Byte) :
    (locStored x s v).imePending = s.imePending := by
  cases x <;> simp [locStored]
@[simp] theorem locStored_halted (x : Loc8) (s : State) (v : Byte) : (locStored x s v).halted = s.halted := by
  cases x <;> simp [locStored]
@[simp] theorem locStored_stopped (x : Loc8) (s : State) (v : Byte) : (locStored x s v).stopped = s.stopped := by
  cases x <;> simp [locStored]
@[simp] theorem locStored_cfg (x : Loc8) (s : State) (v : Byte) : (locStored x s v).cfg = s.cfg := by
  cases x <;> simp [locStored]

@[simp] theorem State.popped_flags (s : State) : s.popped.flags = s.flags := by simp [State.popped]
@[simp] theorem State.popped_ime (s : State) : s.popped.ime = s.ime := by simp [State.popped]
@[simp] theorem State.popped_imePending (s : State) : s.popped.imePending = s.imePending := by simp [State.popped]
@[simp] theorem State.popped_halted (s : State) : s.popped.halted = s.halted := by simp [State.popped]
@[simp] theorem State.popped_stopped (s : State) : s.popped.stopped = s.stopped := by simp [State.popped]
@[simp] theorem State.popped_cfg (s : State) : s.popped.cfg = s.cfg := by simp [State.popped]

/-! ### The control bits (R32, R254, R255) -/

theorem formNext_halted (f : Form) (s : State) :
    (formNext f s).halted = (s.halted || decide (f = .halt)) := by
  cases f with
  | jpCC cc w | jrCC cc e | callCC cc w | retCC cc => simp [formNext, apply_ite State.halted]
  | _ => simp [formNext]

theorem formNext_stopped (f : Form) (s : State) :
    (formNext f s).stopped = (s.stopped || decide (f = .stop)) := by
  cases f with
  | jpCC cc w | jrCC cc e | callCC cc w | retCC cc => simp [formNext, apply_ite State.stopped]
  | _ => simp [formNext]

theorem formNext_ime {f : Form} (s : State) (hdi : f ≠ .di) (hreti : f ≠ .reti) : (formNext f s).ime = s.ime := by
  cases f with
  | di => exact absurd rfl hdi
  | reti => exact absurd rfl hreti
  | jpCC cc w | jrCC cc e | callCC cc w | retCC cc => simp [formNext, apply_ite State.ime]
  | _ => simp [formNext]

theorem formNext_imePending {f : Form} (s : State) (hei : f ≠ .ei) (hdi : f ≠ .di) (hreti : f ≠ .reti) :
    (formNext f s).imePending = s.imePending := by
  cases f with
  | ei => exact absurd rfl hei
  | di => exact absurd rfl hdi
  | reti => exact absurd rfl hreti
  | jpCC cc w | jrCC cc e | callCC cc w | retCC cc => simp [formNext, apply_ite State.imePending]
  | _ => simp [formNext]

/-- Settles O33, from what each form does to each of the four control bits. -/
theorem controlBitsChangeOnlyWhereNamed : Obligations.ControlBitsChangeOnlyWhereNamed := by
  intro i s t h
  obtain ⟨-, rfl⟩ := exec_eq_next.1 h
  refine ⟨formNext_halted _ s, formNext_stopped _ s, fun hf => ?_, fun hf => ?_, fun hf => ?_, fun hei hdi hreti =>
    ⟨formNext_ime s hdi hreti, formNext_imePending s hei hdi hreti⟩⟩
  all_goals
    rw [hf]
    exact ⟨rfl, rfl⟩

/-! ### The registers, SP and the parameters (R22, R30) -/

@[simp] theorem State.getReg_poke (s : State) (x : Word) (v : Byte) (r : Reg8) :
    (s.poke x v).getReg r = s.getReg r := by
  unfold State.poke
  split <;> rfl

@[simp] theorem State.getReg_setSP (s : State) (w : Word) (r : Reg8) :
    State.getReg { s with sp := w } r = s.getReg r := by
  cases r <;> rfl

@[simp] theorem State.getReg_jump (s : State) (w : Word) (r : Reg8) : (s.jump w).getReg r = s.getReg r := by
  cases r <;> rfl

@[simp] theorem State.getReg_popped (s : State) (r : Reg8) : s.popped.getReg r = s.getReg r :=
  (State.getReg_afterRead ..).trans (State.getReg_afterRead ..)

@[simp] theorem State.getReg_setFlags (s : State) (fl : Flags) (r : Reg8) : (s.setFlags fl).getReg r = s.getReg r := by
  cases r <;> rfl

theorem State.getReg_setReg_of_notMem (s : State) {q r : Reg8} (v : Byte) (h : r ∉ [q]) :
    (s.setReg q v).getReg r = s.getReg r :=
  s.getReg_setReg_other v fun hr => h (by simp [hr])

theorem State.getReg_setReg_setReg_of_notMem (s : State) {p q r : Reg8} (v w : Byte) (h : r ∉ [p, q]) :
    ((s.setReg p v).setReg q w).getReg r = s.getReg r :=
  (State.getReg_setReg_other _ _ fun hr => h (by simp [hr])).trans
    (State.getReg_setReg_other _ _ fun hr => h (by simp [hr]))

theorem State.getReg_setBC_of_notMem (s : State) {r : Reg8} (w : Word) (h : r ∉ [.b, .c]) :
    (s.setBC w).getReg r = s.getReg r :=
  s.getReg_setReg_setReg_of_notMem (hiByte w) (loByte w) h

theorem State.getReg_setDE_of_notMem (s : State) {r : Reg8} (w : Word) (h : r ∉ [.d, .e]) :
    (s.setDE w).getReg r = s.getReg r :=
  s.getReg_setReg_setReg_of_notMem (hiByte w) (loByte w) h

theorem State.getReg_setHL_of_notMem (s : State) {r : Reg8} (w : Word) (h : r ∉ [.h, .l]) :
    (s.setHL w).getReg r = s.getReg r :=
  s.getReg_setReg_setReg_of_notMem (hiByte w) (loByte w) h

theorem State.getReg_setPair_of_notMem (s : State) {p : Pair} {r : Reg8} (w : Word) (h : r ∉ p.halves) :
    (s.setPair p w).getReg r = s.getReg r := by
  cases p with
  | bc => exact s.getReg_setBC_of_notMem w h
  | de => exact s.getReg_setDE_of_notMem w h
  | hl => exact s.getReg_setHL_of_notMem w h
  | sp => cases r <;> rfl

theorem State.getReg_setStackPair_of_notMem (s : State) {p : StackPair} {r : Reg8} (w : Word)
    (h : r ∉ (Form.pop p).regsWritten) : (s.setStackPair p w).getReg r = s.getReg r := by
  cases p with
  | bc => exact s.getReg_setBC_of_notMem w h
  | de => exact s.getReg_setDE_of_notMem w h
  | hl => exact s.getReg_setHL_of_notMem w h
  | af => exact (State.getReg_setFlags (s.setReg .a _) _ r).trans (s.getReg_setReg_of_notMem _ h)

theorem State.getReg_ptrAdjust_of_notMem (s : State) {p : Ptr} {r : Reg8} (h : r ∉ (Form.ldPtrA p).regsWritten) :
    (s.ptrAdjust p).getReg r = s.getReg r := by
  cases p with
  | bc | de => rfl
  | hlInc | hlDec => exact s.getReg_setHL_of_notMem _ h

theorem State.setPair_sp_other (s : State) {p : Pair} (w : Word) (h : p ≠ .sp) : (s.setPair p w).sp = s.sp := by
  cases p with
  | sp => exact absurd rfl h
  | bc | de | hl => rfl

theorem getReg_locStored_other {x : Loc8} (s : State) {r : Reg8} (v : Byte) (h : x ≠ .reg r) :
    (locStored x s v).getReg r = s.getReg r := by
  cases x with
  | reg q => exact s.getReg_setReg_other v fun hr => h (congrArg Loc8.reg hr.symm)
  | ind => simp [locStored]

theorem getReg_formNext {f : Form} (s : State) {r : Reg8} (h : r ∉ f.regsWritten) :
    (formNext f s).getReg r = s.getReg r := by
  cases f with
  | ldRegReg dst src | ldRegImm dst v => exact s.getReg_setReg_of_notMem _ h
  | ldRegInd dst => exact (State.getReg_setReg_of_notMem _ _ h).trans (s.getReg_afterRead _ r)
  | ldAAbs w | ldhAPage n | ldhAC =>
    exact (State.getReg_setReg_of_notMem (q := .a) _ _ h).trans (s.getReg_afterRead _ r)
  | ldAPtr p =>
    have hp : r ∉ [Reg8.a] ∧ r ∉ (Form.ldPtrA p).regsWritten := by
      cases p <;> simpa [Form.regsWritten] using h
    exact (State.getReg_ptrAdjust_of_notMem _ hp.2).trans
      ((State.getReg_setReg_of_notMem (q := .a) _ _ hp.1).trans (s.getReg_afterRead _ r))
  | ldPtrA p => exact (State.getReg_ptrAdjust_of_notMem _ h).trans (s.getReg_poke _ _ r)
  | ldPairImm p w | inc16 p | dec16 p => exact s.getReg_setPair_of_notMem _ h
  | pop p => exact (State.getReg_setStackPair_of_notMem _ _ h).trans (s.getReg_popped r)
  | ldHLSPOff e | addHL p =>
    exact (State.getReg_setFlags (s.setHL _) _ r).trans (s.getReg_setHL_of_notMem _ h)
  | alu op src =>
    refine (State.getReg_setFlags ((srcAfter src s).setReg .a _) _ r).trans ?_
    cases op with
    | cp =>
      have ha : s.a = (srcAfter src s).getReg .a := (getReg_srcAfter src s .a).symm
      rw [aluResult, ha, State.setReg_getReg, getReg_srcAfter]
    | _ => exact (State.getReg_setReg_of_notMem _ _ h).trans (getReg_srcAfter src s r)
  | inc8 x | dec8 x | shift op x =>
    exact (State.getReg_setFlags (locStored x s _) _ r).trans
      (getReg_locStored_other s _ fun hx => h (by simp [hx, Form.regsWritten]))
  | res b x | set b x => exact getReg_locStored_other s _ fun hx => h (by simp [hx, Form.regsWritten])
  | bit b x => exact (State.getReg_setFlags (locAfter x s) _ r).trans (getReg_locAfter x s r)
  | rlca | rrca | rla | rra | daa | cpl =>
    exact (State.getReg_setFlags (s.setReg .a _) _ r).trans (s.getReg_setReg_of_notMem _ h)
  | ldSPHL | addSPOff e | scf | ccf | halt | stop | di | ei => cases r <;> rfl
  | reti =>
    have hpop : (formNext .reti s).getReg r = s.popped.getReg r := by cases r <;> rfl
    exact hpop.trans (s.getReg_popped r)
  | jpCC cc w | jrCC cc e | callCC cc w | retCC cc => simp [formNext, apply_ite (State.getReg · r)]
  | _ => simp [formNext]

theorem formNext_sp {f : Form} (s : State) (h : f.writesSP = false) : (formNext f s).sp = s.sp := by
  cases f with
  | ldPairImm p w | inc16 p | dec16 p => exact s.setPair_sp_other _ fun hp => by simp [hp, Form.writesSP] at h
  | jpCC cc w | jrCC cc e => simp [formNext, apply_ite State.sp]
  | ldSPHL | addSPOff e | push p | pop p | call w | callCC cc w | ret | retCC cc | reti | rst y => cases h
  | _ => simp [formNext]

@[simp] theorem formNext_cfg (f : Form) (s : State) : (formNext f s).cfg = s.cfg := by
  cases f with
  | jpCC cc w | jrCC cc e | callCC cc w | retCC cc => simp [formNext, apply_ite State.cfg]
  | _ => simp [formNext]

/-- Settles O36, from the frame of the registers, of SP and of the parameters. -/
theorem registersChangeOnlyWhereNamed : Obligations.RegistersChangeOnlyWhereNamed := by
  intro i s t h
  obtain ⟨-, rfl⟩ := exec_eq_next.1 h
  exact ⟨fun r hr => getReg_formNext s hr, formNext_sp s, formNext_cfg _ s⟩

end Sys2Proof.Machine
end

section
/-! The flags an instruction writes and reads: the table of R29 and the list of readers under it (10_state.md R29). -/

namespace Sys2Proof.Machine

/-! ### The flags written -/

/-- The flags before and after meet the row of R29 for the form. -/
def FlagsAllowed (f : Form) (before after : Flags) : Prop :=
  f.flagCells.1.allows before.z after.z ∧ f.flagCells.2.1.allows before.n after.n ∧
    f.flagCells.2.2.1.allows before.h after.h ∧ f.flagCells.2.2.2.allows before.c after.c

theorem flagsAllowed_aluResult (op : AluOp) (src : Src8) (a b : Byte) (c : Bool) (f : Flags) :
    FlagsAllowed (.alu op src) f (aluResult op a b c).2 := by
  cases op with
  | add | adc | sub | sbc | cp => exact ⟨trivial, rfl, trivial, trivial⟩
  | and | or | xor => exact ⟨trivial, rfl, rfl, rfl⟩

theorem flagsAllowed_shiftResult (op : ShiftOp) (x : Loc8) (r v : Byte) (c : Bool) (f : Flags) :
    FlagsAllowed (.shift op x) f (shiftFlags r (shiftResult op v c).2) := by
  cases op with
  | swap => exact ⟨trivial, rfl, rfl, rfl⟩
  | rlc | rrc | rl | rr | sla | sra | srl => exact ⟨trivial, rfl, rfl, trivial⟩

theorem flagsAllowed_formNext (f : Form) (s : State) : FlagsAllowed f s.flags (formNext f s).flags := by
  cases f with
  | alu op src => exact flagsAllowed_aluResult op src _ _ _ s.flags
  | shift op x => exact flagsAllowed_shiftResult op x _ _ _ s.flags
  | inc8 x | dec8 x => exact ⟨trivial, rfl, trivial, rfl⟩
  | addHL p | addSPOff e | ldHLSPOff e => exact ⟨rfl, rfl, trivial, trivial⟩
  | rlca | rrca | rla | rra | ccf => exact ⟨rfl, rfl, rfl, trivial⟩
  | bit b x => exact ⟨trivial, rfl, rfl, rfl⟩
  | daa => exact ⟨trivial, rfl, rfl, trivial⟩
  | cpl | scf => exact ⟨rfl, rfl, rfl, rfl⟩
  | pop p =>
    cases p with
    | af => exact ⟨trivial, trivial, trivial, trivial⟩
    | bc | de | hl =>
      have hfl : s.popped.flags = s.flags := s.popped_flags
      exact ⟨congrArg Flags.z hfl, congrArg Flags.n hfl, congrArg Flags.h hfl, congrArg Flags.c hfl⟩
  | jpCC cc w | jrCC cc w | callCC cc w | retCC cc =>
    simp [formNext, apply_ite State.flags, FlagsAllowed, Form.flagCells, FlagCell.allows]
  | _ => simp [formNext, FlagsAllowed, Form.flagCells, FlagCell.allows]

/-- Settles O34, form by form. -/
theorem flagsFollowTable : Obligations.FlagsFollowTable := by
  intro i s t h
  obtain ⟨-, rfl⟩ := exec_eq_next.1 h
  exact flagsAllowed_formNext i.form s

/-! ### The flags read -/

theorem Flags.eq_of_agreeOn_all {f g : Flags} (h : Flags.agreeOn { z := true, n := true, h := true, c := true } f g) :
    f = g := by
  obtain ⟨hz, hn, hh, hc⟩ := h
  cases f
  cases g
  exact (Flags.mk.injEq ..).mpr ⟨hz rfl, hn rfl, hh rfl, hc rfl⟩

theorem condHolds_congr {cc : Cond} {f g : Flags} (h : cc.flagRead.agreeOn f g) : condHolds cc f = condHolds cc g := by
  obtain ⟨hz, -, -, hc⟩ := h
  cases cc with
  | nz => exact congrArg not (hz rfl)
  | z => exact hz rfl
  | nc => exact congrArg not (hc rfl)
  | c => exact hc rfl

/-- The carry changes nothing but ADC and SBC. -/
theorem aluResult_congr {op : AluOp} {src : Src8} (a b : Byte) {c d : Bool}
    (h : (Form.alu op src).flagsRead.c = true → c = d) : aluResult op a b c = aluResult op a b d := by
  cases op with
  | adc | sbc => rw [h rfl]
  | _ => rfl

/-- The carry changes nothing but RL and RR. -/
theorem shiftResult_congr {op : ShiftOp} {x : Loc8} (v : Byte) {c d : Bool}
    (h : (Form.shift op x).flagsRead.c = true → c = d) : shiftResult op v c = shiftResult op v d := by
  cases op with
  | rl | rr => rw [h rfl]
  | _ => rfl

theorem daaResult_congr (a : Byte) {f g : Flags} (h : Form.daa.flagsRead.agreeOn f g) :
    daaResult a f = daaResult a g := by
  obtain ⟨-, hn, hh, hc⟩ := h
  rw [daaResult, hn rfl, hh rfl, hc rfl]
  rfl

/-! ### The operations commute with a change of flags -/

@[simp] theorem State.setFlags_flags (s : State) (fl : Flags) : (s.setFlags fl).flags = fl := rfl
@[simp] theorem State.setFlags_setFlags (s : State) (fl fl' : Flags) : (s.setFlags fl).setFlags fl' = s.setFlags fl' :=
  rfl
@[simp] theorem State.setFlags_a (s : State) (fl : Flags) : (s.setFlags fl).a = s.a := rfl
@[simp] theorem State.setFlags_c (s : State) (fl : Flags) : (s.setFlags fl).c = s.c := rfl
@[simp] theorem State.setFlags_sp (s : State) (fl : Flags) : (s.setFlags fl).sp = s.sp := rfl
@[simp] theorem State.setFlags_pc (s : State) (fl : Flags) : (s.setFlags fl).pc = s.pc := rfl
@[simp] theorem State.setFlags_cfg (s : State) (fl : Flags) : (s.setFlags fl).cfg = s.cfg := rfl
@[simp] theorem State.hl_setFlags (s : State) (fl : Flags) : (s.setFlags fl).hl = s.hl := rfl
@[simp] theorem State.peek_setFlags (s : State) (fl : Flags) (x : Word) : (s.setFlags fl).peek x = s.peek x := rfl

@[simp] theorem State.getPair_setFlags (s : State) (fl : Flags) (p : Pair) :
    (s.setFlags fl).getPair p = s.getPair p := by cases p <;> rfl

@[simp] theorem State.ptrAddr_setFlags (s : State) (fl : Flags) (p : Ptr) :
    (s.setFlags fl).ptrAddr p = s.ptrAddr p := by cases p <;> rfl

@[simp] theorem srcValue_setFlags (s : State) (fl : Flags) (x : Src8) :
    srcValue x (s.setFlags fl) = srcValue x s := by cases x <;> simp [srcValue]

@[simp] theorem locValue_setFlags (s : State) (fl : Flags) (x : Loc8) :
    locValue x (s.setFlags fl) = locValue x s := by cases x <;> simp [locValue]

@[simp] theorem State.setReg_setFlags (s : State) (fl : Flags) (r : Reg8) (v : Byte) :
    (s.setFlags fl).setReg r v = (s.setReg r v).setFlags fl := by cases r <;> rfl

@[simp] theorem State.setPair_setFlags (s : State) (fl : Flags) (p : Pair) (w : Word) :
    (s.setFlags fl).setPair p w = (s.setPair p w).setFlags fl := by cases p <;> rfl

@[simp] theorem State.ptrAdjust_setFlags (s : State) (fl : Flags) (p : Ptr) :
    (s.setFlags fl).ptrAdjust p = (s.ptrAdjust p).setFlags fl := by cases p <;> rfl

@[simp] theorem State.jump_setFlags (s : State) (fl : Flags) (w : Word) :
    (s.setFlags fl).jump w = (s.jump w).setFlags fl := rfl

@[simp] theorem State.afterRead_setFlags (s : State) (fl : Flags) (x : Word) :
    (s.setFlags fl).afterRead x = (s.afterRead x).setFlags fl := by
  cases h : s.cfg.isDevice x <;> simp [State.afterRead, State.setFlags, h]

@[simp] theorem State.poke_setFlags (s : State) (fl : Flags) (x : Word) (v : Byte) :
    (s.setFlags fl).poke x v = (s.poke x v).setFlags fl := by
  cases h : s.cfg.isDevice x <;> simp [State.poke, State.setFlags, h]

@[simp] theorem State.popped_setFlags (s : State) (fl : Flags) : (s.setFlags fl).popped = s.popped.setFlags fl := by
  simp only [State.popped, State.afterRead_setFlags, State.setFlags_sp]
  rfl

@[simp] theorem srcAfter_setFlags (s : State) (fl : Flags) (x : Src8) :
    srcAfter x (s.setFlags fl) = (srcAfter x s).setFlags fl := by cases x <;> simp [srcAfter]

@[simp] theorem locAfter_setFlags (s : State) (fl : Flags) (x : Loc8) :
    locAfter x (s.setFlags fl) = (locAfter x s).setFlags fl := by cases x <;> simp [locAfter]

@[simp] theorem locStored_setFlags (s : State) (fl : Flags) (x : Loc8) (v : Byte) :
    locStored x (s.setFlags fl) v = (locStored x s v).setFlags fl := by cases x <;> simp [locStored]

@[simp] theorem srcOk_setFlags (s : State) (fl : Flags) (x : Src8) : srcOk x (s.setFlags fl) ↔ srcOk x s := by
  cases x <;> rfl

@[simp] theorem locOk_setFlags (s : State) (fl : Flags) (x : Loc8) : locOk x (s.setFlags fl) ↔ locOk x s := by
  cases x <;> rfl

@[simp] theorem locReadOk_setFlags (s : State) (fl : Flags) (x : Loc8) :
    locReadOk x (s.setFlags fl) ↔ locReadOk x s := by
  cases x <;> rfl

/-- Only a condition can make the accesses of an instruction depend on flags. -/
theorem formOk_setFlags {f : Form} {s : State} {fl : Flags} (h : f.flagsRead.agreeOn s.flags fl) :
    formOk f (s.setFlags fl) ↔ formOk f s := by
  cases f with
  | callCC cc w | retCC cc =>
    have hcc : (condHolds cc fl = true) = (condHolds cc s.flags = true) := by rw [condHolds_congr h]
    exact imp_congr_left (iff_of_eq hcc)
  | ldAPtr p | ldPtrA p => cases p <;> exact Iff.rfl
  | alu op src => exact srcOk_setFlags s fl src
  | inc8 x | dec8 x | shift op x | res b x | set b x => exact locOk_setFlags s fl x
  | bit b x => exact locReadOk_setFlags s fl x
  | _ => exact Iff.rfl

/-- A push commutes with a change of flags. -/
theorem State.push_setFlags (s : State) (fl : Flags) (w x y : Word) (lo hi : Byte) :
    (State.poke { s.setFlags fl with sp := w } x lo).poke y hi =
      ((State.poke { s with sp := w } x lo).poke y hi).setFlags fl := by
  rw [← State.poke_setFlags, ← State.poke_setFlags]
  rfl

/-- An operand written back beside new flags: the old flags are gone. -/
theorem locStored_setFlags_setFlags (s : State) (fl g g' : Flags) (x : Loc8) {v v' : Byte} (hv : v' = v) :
    (locStored x (s.setFlags fl) v').setFlags g' = ((locStored x s v).setFlags g).setFlags g' := by
  rw [hv, locStored_setFlags]
  rfl

theorem State.setStackPair_setFlags (s : State) (fl : Flags) (p : StackPair) (w : Word) :
    ∃ fl', (s.setFlags fl).setStackPair p w = (s.setStackPair p w).setFlags fl' := by
  cases p <;> exact ⟨_, rfl⟩

theorem ite_setFlags {s t u : State} {fl : Flags} {c d : Bool} (hc : c = d) (h : t = u.setFlags fl) :
    (if d then t else s.setFlags fl) = (if c then u else s).setFlags fl := by
  subst hc
  cases c <;> simp [h]

/-! ### An instruction and the flags it does not read -/

theorem formNext_ldAPtr (p : Ptr) (s : State) : formNext (.ldAPtr p) s =
    ((s.afterRead (s.ptrAddr p)).setReg .a (s.peek (s.ptrAddr p))).ptrAdjust p := rfl

theorem formNext_alu (op : AluOp) (src : Src8) (s : State) : formNext (.alu op src) s =
    ((srcAfter src s).setReg .a (aluResult op s.a (srcValue src s) s.flags.c).1).setFlags
      (aluResult op s.a (srcValue src s) s.flags.c).2 := rfl

theorem formNext_bit (b : Fin 8) (x : Loc8) (s : State) : formNext (.bit b x) s =
    (locAfter x s).setFlags (bitFlags b (locValue x s) s.flags) := rfl

/-- Outside the flags, an instruction does the same whatever the flags it does not read. -/
theorem formNext_setFlags {f : Form} {s : State} {fl : Flags} (h : f.flagsRead.agreeOn s.flags fl) :
    ∃ fl', formNext f (s.setFlags fl) = (formNext f s).setFlags fl' := by
  have hc : f.flagsRead.c = true → fl.c = s.flags.c := fun hr => (h.2.2.2 hr).symm
  cases f with
  | jpCC cc w | jrCC cc e => exact ⟨fl, ite_setFlags (condHolds_congr h) rfl⟩
  | callCC cc w =>
    exact ⟨fl, ite_setFlags (condHolds_congr h) (congrArg (State.jump · w) (s.push_setFlags fl _ _ _ _ _))⟩
  | retCC cc => exact ⟨fl, ite_setFlags (condHolds_congr h) (by simp)⟩
  | ldAPtr p => exact ⟨fl, by simp [formNext_ldAPtr]⟩
  | ldAAbs w => exact ⟨fl, congrArg (State.setReg · .a (s.peek w)) (s.afterRead_setFlags fl w)⟩
  | ldhAPage n =>
    exact ⟨fl, congrArg (State.setReg · .a (s.peek (highPage n))) (s.afterRead_setFlags fl (highPage n))⟩
  | ldhAC =>
    exact ⟨fl, congrArg (State.setReg · .a (s.peek (highPage s.c))) (s.afterRead_setFlags fl (highPage s.c))⟩
  | alu op src =>
    refine ⟨(aluResult op s.a (srcValue src s) fl.c).2, ?_⟩
    simp [formNext_alu, aluResult_congr _ _ hc]
  | inc8 x | dec8 x =>
    exact ⟨_, locStored_setFlags_setFlags s fl _ _ x (by rw [locValue_setFlags]; rfl)⟩
  | shift op x =>
    exact ⟨_, locStored_setFlags_setFlags s fl _ _ x
      (by rw [locValue_setFlags]; exact congrArg Prod.fst (shiftResult_congr _ hc))⟩
  | bit b x => exact ⟨bitFlags b (locValue x s) fl, by simp [formNext_bit]⟩
  | pop p =>
    simp only [formNext, State.popped_setFlags, State.afterRead_setFlags, State.peek_setFlags, State.setFlags_sp]
    exact State.setStackPair_setFlags ..
  | push p =>
    refine ⟨fl, ?_⟩
    cases p with
    | af =>
      obtain rfl := Flags.eq_of_agreeOn_all h
      exact s.push_setFlags s.flags _ _ _ _ _
    | bc | de | hl => exact s.push_setFlags fl _ _ _ _ _
  | call w => exact ⟨fl, congrArg (State.jump · w) (s.push_setFlags fl _ _ _ _ _)⟩
  | rst y => exact ⟨fl, congrArg (State.jump · (rstTarget y)) (s.push_setFlags fl _ _ _ _ _)⟩
  | addHL p => cases p <;> exact ⟨_, rfl⟩
  | rla | rra =>
    obtain ⟨z, n, hf, c⟩ := fl
    obtain rfl : c = s.flags.c := hc rfl
    exact ⟨_, rfl⟩
  | daa =>
    obtain ⟨z, n, hf, c⟩ := fl
    obtain ⟨-, hn, hh, hc⟩ := h
    obtain rfl : s.flags.n = n := hn rfl
    obtain rfl : s.flags.h = hf := hh rfl
    obtain rfl : s.flags.c = c := hc rfl
    exact ⟨_, rfl⟩
  | ldSPHL | halt | stop | di | ei => exact ⟨fl, rfl⟩
  | ldHLSPOff e | addSPOff e | rlca | rrca | cpl | scf | ccf => exact ⟨_, rfl⟩
  | reti =>
    have hret : formNext .ret (s.setFlags fl) = (formNext .ret s).setFlags fl := by simp [formNext]
    exact ⟨fl, congrArg (fun t : State => { t with ime := true, imePending := false }) hret⟩
  | _ => exact ⟨fl, by simp [formNext]⟩

/-- The flags the row of R29 says are written have one value in both. -/
def FlagsSettled (f : Form) (one other : Flags) : Prop :=
  f.flagCells.1.settles one.z other.z ∧ f.flagCells.2.1.settles one.n other.n ∧
    f.flagCells.2.2.1.settles one.h other.h ∧ f.flagCells.2.2.2.settles one.c other.c

theorem flagsSettled_of_eq {f : Form} {one other : Flags} (h : one = other) : FlagsSettled f one other := by
  subst h
  exact ⟨fun _ => rfl, fun _ => rfl, fun _ => rfl, fun _ => rfl⟩

theorem flagsSettled_of_keep {f : Form} {one other : Flags} (h : f.flagCells = (.keep, .keep, .keep, .keep)) :
    FlagsSettled f one other := by
  simp [FlagsSettled, FlagCell.settles, h]

/-- What an instruction leaves in the flags it writes depends on no flag it does not read. -/
theorem flagsSettled_formNext {f : Form} {s : State} {fl : Flags} (h : f.flagsRead.agreeOn s.flags fl) :
    FlagsSettled f (formNext f s).flags (formNext f (s.setFlags fl)).flags := by
  have hc : f.flagsRead.c = true → s.flags.c = fl.c := h.2.2.2
  have kept {x y : Bool} : FlagCell.settles .keep x y := fun hk => absurd rfl hk
  cases f with
  | alu op src =>
    refine flagsSettled_of_eq ?_
    simp [formNext_alu, aluResult_congr _ _ hc]
  | shift op x =>
    refine flagsSettled_of_eq ?_
    simp [formNext, shiftResult_congr _ hc]
  | inc8 x | dec8 x | bit b x =>
    simp only [formNext, locValue_setFlags]
    exact ⟨fun _ => rfl, fun _ => rfl, fun _ => rfl, kept⟩
  | addHL p =>
    simp only [formNext, State.getPair_setFlags]
    exact ⟨kept, fun _ => rfl, fun _ => rfl, fun _ => rfl⟩
  | ldHLSPOff e | addSPOff e | rlca | rrca => exact flagsSettled_of_eq rfl
  | rla | rra => exact flagsSettled_of_eq (by simp [formNext, hc rfl])
  | daa => exact flagsSettled_of_eq (congrArg Prod.snd (daaResult_congr s.a h))
  | cpl => exact ⟨kept, fun _ => rfl, fun _ => rfl, kept⟩
  | scf => exact ⟨kept, fun _ => rfl, fun _ => rfl, fun _ => rfl⟩
  | ccf => exact ⟨kept, fun _ => rfl, fun _ => rfl, fun _ => congrArg not (hc rfl)⟩
  | pop p =>
    cases p with
    | af => exact flagsSettled_of_eq (by simp [formNext, State.setStackPair, State.setAF])
    | bc | de | hl => exact flagsSettled_of_keep rfl
  | _ => exact flagsSettled_of_keep rfl

/-- Settles O35: the instruction completes from both states, does the same outside the flags, and settles the flags it
writes. -/
theorem flagsReadOnlyWhereNamed : Obligations.FlagsReadOnlyWhereNamed := by
  intro i s t fl h hs
  obtain ⟨hok, rfl⟩ := exec_eq_next.1 hs
  obtain ⟨fl', hnext⟩ := formNext_setFlags h
  have hfl : (formNext i.form (s.setFlags fl)).flags = fl' := by rw [hnext, State.setFlags_flags]
  refine ⟨fl', exec_eq_next.2 ⟨(formOk_setFlags h).2 hok, hnext.symm⟩, ?_⟩
  exact hfl ▸ flagsSettled_formNext h

end Sys2Proof.Machine
end

section
/-! One byte and one word at the memory interface (20_memory.md R52 to R57, R60). -/

namespace Sys2Proof.Machine

/-- Settles O22: a refused read, a read of plain RAM, a read of a device. -/
theorem byteReads : Obligations.ByteReads := by
  intro s a k _
  refine ⟨fun info hf => memRead_fault hf, fun hf hd => ?_, fun hf hd => ?_⟩
  · rw [memRead_ok hf, State.peek_ram hd, State.afterRead_ram hd]
  · simp [memRead_ok hf, State.peek, State.afterRead, hd]

/-- Two addresses that differ are different numbers, so a write of one leaves the other alone. -/
theorem Memory.read_write_of_ne {m : Memory} (h : m.wf = true) {a b : Word} (v : Byte) (hab : b ≠ a) :
    (m.write a.toNat v).read b.toNat = m.read b.toNat :=
  Memory.read_write_other v (fun hn => hab (BitVec.eq_of_toNat_eq hn)) h

/-- Settles O23: a refused write, a write of plain RAM with its frame, a write to a device. -/
theorem byteWrites : Obligations.ByteWrites := by
  intro s a v hw
  refine ⟨fun info hf => memWrite_fault v hf, fun hf hd => ?_, fun hf hd => ?_⟩
  · refine ⟨s.mem.write a.toNat v, ?_, Memory.write_wf hw a v, Memory.read_write_same _ v hw, fun b hb =>
      Memory.read_write_of_ne hw v hb⟩
    rw [memWrite_ok v hf, State.poke_ram hd]
  · simp [memWrite_ok v hf, State.poke, hd]

theorem toNat_add_one (a : Word) : (a + 1#16).toNat = (a.toNat + 1) % 65536 := by simp

theorem memRead16_ram {s : State} {a : Word} (h1 : s.ramAt a) (h2 : s.ramAt (a + 1#16)) :
    memRead16 s a = .ok (mkWord (s.mem.read (a + 1#16).toNat) (s.mem.read a.toNat), s) := by
  obtain ⟨hd1, hr1, -⟩ := h1
  obtain ⟨hd2, hr2, -⟩ := h2
  refine memRead16_eq_ok.2 ⟨hr1, hr2, ?_⟩
  rw [State.afterRead_ram hd1, State.afterRead_ram hd2, State.peek_ram hd1, State.peek_ram hd2]

theorem memWrite16_ram {s : State} {a : Word} (v : Word) (h1 : s.ramAt a) (h2 : s.ramAt (a + 1#16)) :
    memWrite16 s a v = .ok { s with
      mem := (s.mem.write a.toNat (loByte v)).write (a + 1#16).toNat (hiByte v) } := by
  obtain ⟨hd1, -, hw1⟩ := h1
  obtain ⟨hd2, -, hw2⟩ := h2
  refine memWrite16_eq_ok.2 ⟨hw1, hw2, ?_⟩
  rw [State.poke_ram hd1, State.poke_ram (by exact hd2)]

/-- Settles O24: a word access on plain RAM is two byte accesses, and the second byte's address is another one. -/
theorem wordAccesses : Obligations.WordAccesses := by
  intro s a v hw h1 h2
  have hw1 := Memory.write_wf hw a (loByte v)
  rw [memRead16_ram h1 h2, memWrite16_ram v h1 h2, ← toNat_add_one]
  refine ⟨?_, _, rfl, Memory.write_wf hw1 _ _, ?_, ?_, fun b hb hb1 => ?_⟩
  · rw [mkWord_eq_ofNat, Nat.add_comm]
  · rw [Memory.read_write_of_ne hw1 _ (add_one_ne a).symm, Memory.read_write_same _ _ hw, loByte_eq_ofNat,
      BitVec.toNat_ofNat, Nat.mod_mod]
  · rw [Memory.read_write_same _ _ hw1, hiByte_eq_ofNat, BitVec.toNat_ofNat, Nat.mod_eq_of_lt (by omega)]
  · rw [Memory.read_write_of_ne hw1 _ hb1, Memory.read_write_of_ne hw _ hb]

end Sys2Proof.Machine
end

section
/-! The first refused access of an instruction decides its outcome (20_memory.md R58, R59, R62; 60_exceptions.md R262). -/

namespace Sys2Proof.Machine

/-- What an operation answers that makes these accesses in order: the fault of the first refused one, or a value. -/
def guarded {α : Type} (cfg : Config) (l : List (Access × Word)) (v : α) : Except Fault α :=
  match cfg.firstFault l with
  | none => .ok v
  | some f => .error f

/-- An outcome is decided by a list of accesses: the fault of the first refused one, or a next state. -/
def DecidedBy (cfg : Config) (l : List (Access × Word)) (o : Out) : Prop :=
  match cfg.firstFault l with
  | none => ∃ t, o = .next t
  | some f => o = .fault f

theorem firstFault_append (cfg : Config) (l l' : List (Access × Word)) :
    cfg.firstFault (l ++ l') = (cfg.firstFault l).or (cfg.firstFault l') :=
  List.findSome?_append

theorem guarded_nil {α : Type} (cfg : Config) (v : α) : guarded cfg [] v = .ok v := rfl

theorem guarded_cons_ok {α : Type} {cfg : Config} {k : Access} {a : Word} (h : cfg.faultInfo a k = none)
    (l : List (Access × Word)) (v : α) : guarded cfg ((k, a) :: l) v = guarded cfg l v := by
  simp [guarded, Config.firstFault, h]

theorem guarded_cons_fault {α : Type} {cfg : Config} {k : Access} {a : Word} {n : Nat}
    (h : cfg.faultInfo a k = some n) (l : List (Access × Word)) (v : α) :
    guarded cfg ((k, a) :: l) v = .error (.memoryFault a k n) := by
  simp [guarded, Config.firstFault, h]

/-! ### The operations as guarded values -/

theorem memRead_eq_guarded (s : State) (a : Word) (k : Access) :
    memRead s a k = guarded s.cfg [(k, a)] (s.peek a, s.afterRead a) := by
  cases h : s.cfg.faultInfo a k with
  | none => rw [memRead_ok h, guarded_cons_ok h, guarded_nil]
  | some n => rw [memRead_fault h, guarded_cons_fault h]

theorem memWrite_eq_guarded (s : State) (a : Word) (v : Byte) :
    memWrite s a v = guarded s.cfg [(.write, a)] (s.poke a v) := by
  cases h : s.cfg.faultInfo a .write with
  | none => rw [memWrite_ok v h, guarded_cons_ok h, guarded_nil]
  | some n => rw [memWrite_fault v h, guarded_cons_fault h]

/-- Two accesses, the second made only where the first is not refused. -/
theorem eq_guarded_pair {α : Type} {cfg : Config} {k : Access} {a b : Word} {x : Except Fault α} {v : α}
    (hok : cfg.faultInfo a k = none → cfg.faultInfo b k = none → x = .ok v)
    (hfirst : ∀ n, cfg.faultInfo a k = some n → x = .error (.memoryFault a k n))
    (hsecond : ∀ n, cfg.faultInfo a k = none → cfg.faultInfo b k = some n → x = .error (.memoryFault b k n)) :
    x = guarded cfg [(k, a), (k, b)] v := by
  cases h : cfg.faultInfo a k with
  | some n => rw [guarded_cons_fault h, hfirst n h]
  | none =>
    rw [guarded_cons_ok h]
    cases h2 : cfg.faultInfo b k with
    | some n => rw [guarded_cons_fault h2, hsecond n h h2]
    | none => rw [guarded_cons_ok h2, guarded_nil, hok h h2]

theorem memRead16_eq_guarded (s : State) (a : Word) : memRead16 s a =
    guarded s.cfg [(.read, a), (.read, a + 1#16)]
      (mkWord ((s.afterRead a).peek (a + 1#16)) (s.peek a), (s.afterRead a).afterRead (a + 1#16)) :=
  eq_guarded_pair (fun h1 h2 => memRead16_eq_ok.2 ⟨h1, h2, rfl⟩)
    (fun n h1 => memRead16_eq_error.2 (.inl ⟨n, h1, rfl⟩))
    (fun n h1 h2 => memRead16_eq_error.2 (.inr ⟨h1, n, h2, rfl⟩))

theorem memWrite16_eq_guarded (s : State) (a v : Word) : memWrite16 s a v =
    guarded s.cfg [(.write, a), (.write, a + 1#16)] ((s.poke a (loByte v)).poke (a + 1#16) (hiByte v)) :=
  eq_guarded_pair (fun h1 h2 => memWrite16_eq_ok.2 ⟨h1, h2, rfl⟩)
    (fun n h1 => memWrite16_eq_error.2 (.inl ⟨n, h1, rfl⟩))
    (fun n h1 h2 => memWrite16_eq_error.2 (.inr ⟨h1, n, h2, rfl⟩))

theorem push16_eq_guarded (s : State) (v : Word) : push16 s v =
    guarded s.cfg [(.write, s.sp - 2#16), (.write, s.sp - 2#16 + 1#16)] (s.pushed v) := by
  rw [State.pushed_eq]
  exact memWrite16_eq_guarded { s with sp := s.sp - 2#16 } _ v

theorem pop16_eq_guarded (s : State) : pop16 s =
    guarded s.cfg [(.read, s.sp), (.read, s.sp + 1#16)]
      (mkWord ((s.afterRead s.sp).peek (s.sp + 1#16)) (s.peek s.sp), s.popped) := by
  rw [pop16, memRead16_eq_guarded, guarded, guarded]
  cases s.cfg.firstFault [(.read, s.sp), (.read, s.sp + 1#16)] with
  | some f => rfl
  | none => simp [State.popped]

/-! ### Outcomes decided by accesses -/

theorem decidedBy_next (cfg : Config) (t : State) : DecidedBy cfg [] (.next t) := ⟨t, rfl⟩

/-- An operation followed by more: its accesses come first. -/
theorem decidedBy_orFault {α : Type} {cfg : Config} {l l' : List (Access × Word)} {x : Except Fault α} {v : α}
    {k : α → Out} (hx : x = guarded cfg l v) (hk : DecidedBy cfg l' (k v)) :
    DecidedBy cfg (l ++ l') (orFault x k) := by
  rw [hx, DecidedBy, firstFault_append, guarded]
  cases cfg.firstFault l with
  | none => exact hk
  | some f => exact rfl

/-- An operation after which the instruction completes. -/
theorem decidedBy_orFault_next {α : Type} {cfg : Config} {l : List (Access × Word)} {x : Except Fault α} {v : α}
    {k : α → State} (hx : x = guarded cfg l v) : DecidedBy cfg l (orFault x fun r => .next (k r)) := by
  have h := decidedBy_orFault (k := fun r => .next (k r)) hx (decidedBy_next cfg (k v))
  rwa [List.append_nil] at h

/-- The byte at HL read, another written back, and the instruction completes: the shape of INC, DEC, the rotates and
shifts, RES and SET. -/
theorem decidedBy_updateAtHL (s : State) {g : Byte × State → Byte} {k : Byte × State → State → State} :
    DecidedBy s.cfg [(.read, s.hl), (.write, s.hl)]
      (orFault (readLoc s .ind) fun r => orFault (writeLoc r.2 .ind (g r)) fun t => .next (k r t)) := by
  have hwrite (v : Byte) : writeLoc (s.afterRead s.hl) .ind v =
      guarded s.cfg [(.write, s.hl)] ((s.afterRead s.hl).poke s.hl v) := by
    simpa [writeLoc] using memWrite_eq_guarded (s.afterRead s.hl) s.hl v
  exact decidedBy_orFault (memRead_eq_guarded s s.hl .read) (decidedBy_orFault_next (hwrite _))

/-- A conditional transfer makes the accesses of the transfer, or none and completes (R235). -/
theorem decidedBy_ite {cfg : Config} {l : List (Access × Word)} {o : Out} (s : State) (c : Bool)
    (h : DecidedBy cfg l o) : DecidedBy cfg (if c then l else []) (if c then o else .next s) := by
  cases c with
  | true => exact h
  | false => exact decidedBy_next cfg s

theorem decidedBy_ite_next {cfg : Config} (s t : State) (c : Bool) :
    DecidedBy cfg [] (if c then .next t else .next s) := by
  have h := decidedBy_ite s c (decidedBy_next cfg t)
  rwa [ite_self] at h

theorem accesses_callCC (cc : Cond) (w : Word) (s : State) : (Form.callCC cc w).accesses s =
    if condHolds cc s.flags then (Form.call w).accesses s else [] := by
  cases h : condHolds cc s.flags <;> simp [Form.accesses, Form.readAddrs, Form.storeAddrs, h]

theorem accesses_retCC (cc : Cond) (s : State) : (Form.retCC cc).accesses s =
    if condHolds cc s.flags then Form.ret.accesses s else [] := by
  cases h : condHolds cc s.flags <;> simp [Form.accesses, Form.readAddrs, Form.storeAddrs, h]

/-- The accesses of a form decide what it answers, but for the illegal rows. -/
theorem runForm_decidedBy {f : Form} (s : State) (hf : f.wf = true) :
    DecidedBy s.cfg (f.accesses s) (runForm f s) := by
  have hcall (w : Word) : DecidedBy s.cfg ((Form.call w).accesses s) (opCall w s) :=
    decidedBy_orFault_next (push16_eq_guarded s s.pc)
  have hret : DecidedBy s.cfg (Form.ret.accesses s) (opRet s) := decidedBy_orFault_next (pop16_eq_guarded s)
  cases f with
  | illegal op => cases hf
  | ldRegInd dst | ldAPtr p | ldAAbs w | ldhAPage n | ldhAC => exact decidedBy_orFault_next (memRead_eq_guarded ..)
  | ldIndReg src | ldIndImm v | ldPtrA p | ldAbsA w | ldhPageA n | ldhCA =>
    exact decidedBy_orFault_next (memWrite_eq_guarded ..)
  | ldAbsSP w => exact decidedBy_orFault_next (memWrite16_eq_guarded ..)
  | push p | rst y => exact decidedBy_orFault_next (push16_eq_guarded ..)
  | pop p | reti => exact decidedBy_orFault_next (pop16_eq_guarded s)
  | call w => exact hcall w
  | ret => exact hret
  | callCC cc w => exact accesses_callCC cc w s ▸ decidedBy_ite s _ (hcall w)
  | retCC cc => exact accesses_retCC cc s ▸ decidedBy_ite s _ hret
  | jpCC cc w | jrCC cc e =>
    exact decidedBy_ite_next s _ _
  | alu op src =>
    cases src with
    | ind => exact decidedBy_orFault_next (memRead_eq_guarded s s.hl .read)
    | reg r | imm v => exact decidedBy_next _ _
  | bit b x =>
    cases x with
    | ind => exact decidedBy_orFault_next (memRead_eq_guarded s s.hl .read)
    | reg r => exact decidedBy_next _ _
  | inc8 x | dec8 x | shift op x | res b x | set b x =>
    cases x with
    | ind => exact decidedBy_updateAtHL s
    | reg r => exact decidedBy_next _ _
  | _ => exact decidedBy_next _ _

/-- Settles O18: each row answers as its form, and a form's accesses decide its outcome. -/
theorem accessesDecideOutcome : Obligations.AccessesDecideOutcome := by
  intro i s hi
  rw [exec_eq_runForm]
  exact runForm_decidedBy s hi

end Sys2Proof.Machine
end

section
/-! What an instruction does to memory and to devices: the data accesses of its form, in order, and nothing else
(20_memory.md R53, R58, R59, R60, R68; 70_reset_and_hazards.md R285). -/

namespace Sys2Proof.Machine

/-! ### One access -/

theorem State.afterRead_io (s : State) (a : Word) : (s.afterRead a).io =
    if s.cfg.isDevice a then .read a (Config.deviceByte s.io a) :: s.io else s.io := by
  unfold State.afterRead
  split <;> rfl

theorem State.poke_io (s : State) (a : Word) (v : Byte) :
    (s.poke a v).io = if s.cfg.isDevice a then .write a v :: s.io else s.io := by
  unfold State.poke
  split <;> rfl

theorem State.poke_mem (s : State) (a : Word) (v : Byte) :
    (s.poke a v).mem = if s.cfg.isDevice a then s.mem else s.mem.write a.toNat v := by
  unfold State.poke
  split <;> rfl

/-- A stored byte reads back from plain RAM. -/
theorem State.read_poke_same {s : State} {a : Word} (v : Byte) (hw : s.mem.wf = true)
    (hd : s.cfg.isDevice a = false) : (s.poke a v).mem.read a.toNat = v := by
  rw [State.poke_ram hd]
  exact Memory.read_write_same _ v hw

/-- A store leaves every other address, and every device address, as it was. -/
theorem State.read_poke_other {s : State} {a b : Word} (v : Byte) (hw : s.mem.wf = true)
    (h : b ≠ a ∨ s.cfg.isDevice b = true) : (s.poke a v).mem.read b.toNat = s.mem.read b.toNat := by
  cases hd : s.cfg.isDevice a with
  | true => rw [State.poke_mem, if_pos hd]
  | false =>
    have hba : b ≠ a := h.elim id fun hb hab => by simp [hab, hd] at hb
    rw [State.poke_ram hd]
    exact Memory.read_write_of_ne hw v hba

/-! ### Accesses in a row -/

/-- The state after reading bytes in order. -/
def State.readAll (s : State) (l : List Word) : State := l.foldl State.afterRead s

/-- The state after storing bytes in order. -/
def State.pokeAll (s : State) (l : List (Word × Byte)) : State := l.foldl (fun t x => t.poke x.1 x.2) s

@[simp] theorem State.readAll_nil (s : State) : s.readAll [] = s := rfl

@[simp] theorem State.pokeAll_nil (s : State) : s.pokeAll [] = s := rfl

@[simp] theorem State.readAll_cons (s : State) (a : Word) (l : List Word) :
    s.readAll (a :: l) = (s.afterRead a).readAll l := rfl

@[simp] theorem State.pokeAll_cons (s : State) (a : Word) (v : Byte) (l : List (Word × Byte)) :
    s.pokeAll ((a, v) :: l) = (s.poke a v).pokeAll l := rfl

@[simp] theorem State.readAll_cfg (s : State) (l : List Word) : (s.readAll l).cfg = s.cfg := by
  induction l generalizing s with
  | nil => rfl
  | cons a l ih => rw [State.readAll_cons, ih, State.afterRead_cfg]

@[simp] theorem State.readAll_mem (s : State) (l : List Word) : (s.readAll l).mem = s.mem := by
  induction l generalizing s with
  | nil => rfl
  | cons a l ih => rw [State.readAll_cons, ih, State.afterRead_mem]

theorem State.readAll_seen (s : State) (l : List Word) : (s.readAll l).io.map IoEvent.access =
    ((l.map (Access.read, ·)).filter fun x => s.cfg.isDevice x.2).reverse ++ s.io.map IoEvent.access := by
  induction l generalizing s with
  | nil => rfl
  | cons a l ih =>
    rw [State.readAll_cons, ih, State.afterRead_io, State.afterRead_cfg]
    cases h : s.cfg.isDevice a <;> simp [h, IoEvent.access]

theorem State.pokeAll_seen (s : State) (l : List (Word × Byte)) : (s.pokeAll l).io.map IoEvent.access =
    (((l.map Prod.fst).map (Access.write, ·)).filter fun x => s.cfg.isDevice x.2).reverse ++
      s.io.map IoEvent.access := by
  induction l generalizing s with
  | nil => rfl
  | cons x l ih =>
    obtain ⟨a, v⟩ := x
    rw [State.pokeAll_cons, ih, State.poke_io, State.poke_cfg]
    cases h : s.cfg.isDevice a <;> simp [h, IoEvent.access]

theorem State.pokeAll_wf {s : State} (l : List (Word × Byte)) (hw : s.mem.wf = true) :
    (s.pokeAll l).mem.wf = true := by
  induction l generalizing s with
  | nil => exact hw
  | cons x l ih => exact ih (State.poke_wf hw x.1 x.2)

theorem State.read_pokeAll_other {s : State} {l : List (Word × Byte)} {b : Word} (hw : s.mem.wf = true)
    (h : b ∉ l.map Prod.fst ∨ s.cfg.isDevice b = true) : (s.pokeAll l).mem.read b.toNat = s.mem.read b.toNat := by
  induction l generalizing s with
  | nil => rfl
  | cons x l ih =>
    obtain ⟨a, v⟩ := x
    simp only [List.map_cons, List.mem_cons, not_or] at h
    rw [State.pokeAll_cons, ih (State.poke_wf hw a v) (h.imp And.right (by simp)),
      State.read_poke_other v hw (h.imp_left And.left)]

/-- Of bytes stored at different addresses, each reads back from plain RAM. -/
theorem State.read_pokeAll_mem {s : State} {l : List (Word × Byte)} {a : Word} {v : Byte} (hw : s.mem.wf = true)
    (hn : (l.map Prod.fst).Nodup) (hd : s.cfg.isDevice a = false) (h : (a, v) ∈ l) :
    (s.pokeAll l).mem.read a.toNat = v := by
  induction l generalizing s with
  | nil => cases h
  | cons x l ih =>
    obtain ⟨hx, hl⟩ := List.nodup_cons.1 hn
    have hw' := State.poke_wf hw x.1 x.2
    rcases List.mem_cons.1 h with rfl | h
    · rw [State.pokeAll_cons, State.read_pokeAll_other hw' (.inl hx), State.read_poke_same v hw hd]
    · exact ih hw' hl (by simp [hd]) h

/-! ### The accesses of a form -/

/-- The bytes a form stores, each with its address, in order. -/
def formStores (f : Form) (s : State) : List (Word × Byte) := (f.storeAddrs s).zip (f.storeBytes s)

theorem length_storeBytes (f : Form) (s : State) : (f.storeBytes s).length = (f.storeAddrs s).length := by
  cases f with
  | inc8 x | dec8 x | shift op x | res b x | set b x => cases x <;> rfl
  | callCC cc w => cases h : condHolds cc s.flags <;> simp [Form.storeBytes, Form.storeAddrs, h]
  | _ => rfl

theorem map_fst_formStores (f : Form) (s : State) : (formStores f s).map Prod.fst = f.storeAddrs s :=
  List.map_fst_zip (length_storeBytes f s).ge

/-- A form stores each of its bytes at an address of its own. -/
theorem nodup_storeAddrs (f : Form) (s : State) : (f.storeAddrs s).Nodup := by
  cases f with
  | ldAbsSP w | push p | call w | rst y => simp [Form.storeAddrs, (add_one_ne _).symm]
  | callCC cc w => cases h : condHolds cc s.flags <;> simp [Form.storeAddrs, h, (add_one_ne _).symm]
  | inc8 x | dec8 x | shift op x | res b x | set b x => cases x <;> simp [Form.storeAddrs]
  | _ => simp [Form.storeAddrs]

/-- The state after the data accesses of a form, reads first (R59), and nothing else of what the form does. -/
def State.accessed (s : State) (f : Form) : State := (s.readAll (f.readAddrs s)).pokeAll (formStores f s)

/-- The same memory, and the same accesses that devices have seen. -/
def SameBus (s t : State) : Prop := s.mem = t.mem ∧ s.io = t.io

/-- What a form does to memory and devices is its data accesses: what else it does is to registers, flags and control bits,
and where SP points makes no difference to a store. -/
theorem formNext_sameBus (f : Form) (s : State) : SameBus (formNext f s) (s.accessed f) := by
  unfold SameBus State.accessed formStores
  cases f with
  | alu op x => cases x <;> simp [formNext, srcAfter, Form.readAddrs, Form.storeAddrs]
  | bit b x => cases x <;> simp [formNext, locAfter, Form.readAddrs, Form.storeAddrs]
  | inc8 x | dec8 x | shift op x | res b x | set b x =>
    cases x <;> simp [formNext, locStored, locValue, Form.readAddrs, Form.storeAddrs, Form.storeBytes]
  | jpCC cc w | jrCC cc e | retCC cc =>
    cases h : condHolds cc s.flags <;> simp [formNext, h, State.popped, Form.readAddrs, Form.storeAddrs]
  | callCC cc w =>
    cases h : condHolds cc s.flags <;>
      simp [formNext, h, State.poke_mem, State.poke_io, Form.readAddrs, Form.storeAddrs, Form.storeBytes]
  | push p | call w | rst y =>
    simp [formNext, State.poke_mem, State.poke_io, Form.readAddrs, Form.storeAddrs, Form.storeBytes]
  | pop p | ret | reti => simp [formNext, State.popped, Form.readAddrs, Form.storeAddrs]
  | _ => simp [formNext, Form.readAddrs, Form.storeAddrs, Form.storeBytes]

theorem formNext_mem (f : Form) (s : State) :
    (formNext f s).mem = ((s.readAll (f.readAddrs s)).pokeAll (formStores f s)).mem := (formNext_sameBus f s).1

theorem formNext_io (f : Form) (s : State) :
    (formNext f s).io = ((s.readAll (f.readAddrs s)).pokeAll (formStores f s)).io := (formNext_sameBus f s).2

/-- Settles O19: the stores reach the devices after the reads, each list in order. -/
theorem accessesMadeInOrder : Obligations.AccessesMadeInOrder := by
  intro i s t h
  obtain ⟨-, rfl⟩ := exec_eq_next.1 h
  rw [formNext_io, State.pokeAll_seen, State.readAll_seen, map_fst_formStores, State.readAll_cfg, Form.accesses,
    List.filter_append, List.reverse_append, List.append_assoc]

/-- Settles O38: reads leave memory alone, and a list of stores leaves alone what it does not name. -/
theorem memoryChangesOnlyWhereStored : Obligations.MemoryChangesOnlyWhereStored := by
  intro i s t hw h
  obtain ⟨-, rfl⟩ := exec_eq_next.1 h
  rw [formNext_mem]
  have hw' : (s.readAll (i.form.readAddrs s)).mem.wf = true := by rwa [State.readAll_mem]
  refine ⟨State.pokeAll_wf _ hw', fun a ha => ?_, fun hnone => ?_⟩
  · rw [State.read_pokeAll_other hw' (by rwa [map_fst_formStores, State.readAll_cfg]), State.readAll_mem]
  · rw [formStores, hnone, List.zip_nil_left]
    exact State.readAll_mem ..

/-! ### A store and the fetch that follows it -/

/-- A byte a form stores to plain RAM stands there afterwards. -/
theorem read_formNext {f : Form} {s : State} {a : Word} {v : Byte} (hw : s.mem.wf = true)
    (h : (a, v) ∈ (f.storeAddrs s).zip (f.storeBytes s)) (hd : s.cfg.isDevice a = false) :
    (formNext f s).mem.read a.toNat = v := by
  rw [formNext_mem]
  refine State.read_pokeAll_mem (by rwa [State.readAll_mem]) ?_ (by rwa [State.readAll_cfg]) h
  rw [map_fst_formStores]
  exact nodup_storeAddrs f s

/-- What a form stores depends on no field the start of a step writes. -/
theorem storeAddrs_startStep (f : Form) (s : State) : f.storeAddrs (startStep s) = f.storeAddrs s := by
  rw [startStep_eq]
  rfl

theorem storeBytes_startStep (f : Form) (s : State) : f.storeBytes (startStep s) = f.storeBytes s := by
  rw [startStep_eq]
  rfl

/-- Where the key of an instruction that stands in plain RAM has no cost record, its fetch ends in an error (R103). -/
theorem fetchInstr_fetchesAt_noCost {s : State} {bs : List Byte} {i : Instr} (h : s.fetchesAt s.pc bs)
    (hd : decode s.cfg.stopLength bs = .ok (i, [])) (hc : costOf s.cfg (keyOfBytes bs) = none) :
    fetchInstr s = .error (.malformedOpcode (keyOfBytes bs).space (keyOfBytes bs).opcode s.pc) := by
  obtain ⟨ops, hbs, -, hk⟩ := decode_split hd
  rw [List.append_nil] at hbs
  rw [hbs, State.fetchesAt_append] at h
  simp only [fetchInstr, fetchKey_fetchesAt hk h.1, hc]

theorem startStep_setPc (s : State) (w : Word) :
    startStep { s with pc := w } = { startStep s with pc := w } := by
  rw [startStep_eq, startStep_eq]

/-- The step of a running core whose instruction stands in plain RAM: the form's next state, from PC past the bytes, and
the cost. -/
theorem step_eq_formNext {s t : State} {bs : List Byte} {i : Instr} (hr : s.running = true)
    (h : s.fetchesAt s.pc bs) (hd : decode s.cfg.stopLength bs = .ok (i, [])) (ht : step s = .next t) :
    ∃ n, t = { formNext i.form (startStep { s with pc := s.pc + BitVec.ofNat 16 bs.length }) with cycles := n } := by
  obtain ⟨hidle, -⟩ | ⟨-, f, u, hf, hu, rfl⟩ := step_cases ht
  · simp [hr] at hidle
  have h0 : (startStep s).fetchesAt (startStep s).pc bs := by
    rw [startStep_pc]
    exact State.fetchesAt_congr s _ (startStep_cfg s) (startStep_mem s) bs _ h
  have hd0 : decode (startStep s).cfg.stopLength bs = .ok (i, []) := by rwa [startStep_cfg]
  obtain ⟨-, rfl⟩ := exec_eq_next.1 hu
  cases hc : costOf (startStep s).cfg (keyOfBytes bs) with
  | none => rw [fetchInstr_fetchesAt_noCost h0 hd0 hc] at hf; cases hf
  | some c =>
    rw [fetchInstr_fetchesAt h0 hd0 hc, startStep_pc, ← startStep_setPc s] at hf
    cases hf
    exact ⟨_, rfl⟩

/-- A fetch from plain RAM gets what memory holds and leaves the state alone. -/
theorem memRead_fetch_ram {s : State} {a : Word} (hd : s.cfg.isDevice a = false)
    (hf : s.cfg.faultInfo a .fetch = none) : memRead s a .fetch = .ok (s.mem.read a.toNat, s) := by
  rw [memRead_ok hf, State.peek_ram hd, State.afterRead_ram hd]

/-- The first fetch of a step, at PC in plain RAM. -/
theorem fetch8_startStep_ram {s : State} (hd : s.cfg.isDevice s.pc = false)
    (hf : s.cfg.faultInfo s.pc .fetch = none) :
    fetch8 (startStep s) = .ok (s.mem.read s.pc.toNat, { startStep s with pc := s.pc + 1#16 }) := by
  rw [fetch8, memRead_fetch_ram (by simpa using hd) (by simpa using hf)]
  simp

/-- Settles O21: the step leaves the byte at its address, and a fetch from plain RAM gets what memory holds there. -/
theorem fetchSeesEarlierWrite : Obligations.FetchSeesEarlierWrite := by
  intro s t bytes i ⟨hw, _⟩ hr hb hd ht s0 a v hav hdev hf
  obtain ⟨n, htn⟩ := step_eq_formNext hr hb hd ht
  rw [← storeAddrs_startStep, ← storeBytes_startStep] at hav
  have hread : t.mem.read a.toNat = v := by
    rw [htn]
    exact read_formNext (by simpa [s0] using hw) hav (by simpa [s0] using hdev)
  have hcfg : t.cfg = s.cfg := by rw [htn, formNext_cfg, startStep_cfg]
  rw [← hcfg] at hdev hf
  refine ⟨hread ▸ memRead_fetch_ram hdev hf, fun hpc => ?_⟩
  subst hpc
  exact hread ▸ fetch8_startStep_ram hdev hf

end Sys2Proof.Machine
end

section
/-! The encoder and the decoder: field patterns, the two round trips and totality (30_encoding.md R70 to R87). -/

namespace Sys2Proof.Machine

/-! ### The encoding of a row -/

/-- The opcode of a row is the field pattern of its form (R81, R82), one constructor after another. -/
theorem encode_eq_fieldBytes (sl : StopLength) (i : Instr) : encode sl i = i.form.fieldBytes sl := by
  cases i <;> rfl

/-- Settles O6: the codes by their tables, the encoding row by row. -/
theorem encodingFollowsFields : Obligations.EncodingFollowsFields :=
  ⟨⟨rfl, rfl, fun _ => rfl⟩, ⟨rfl, rfl, rfl, rfl⟩, ⟨rfl, rfl⟩, encode_eq_fieldBytes⟩

/-- An encoding has a first byte, and that byte says whether the row is an instruction (R84). -/
theorem encode_eq_cons (sl : StopLength) (i : Instr) :
    ∃ op ops, encode sl i = op :: ops ∧ i.wf = !decide (op ∈ illegalOpcodes) := by
  cases i with
  | stop => cases sl <;> exact ⟨_, _, rfl, rfl⟩
  | _ => exact ⟨_, _, rfl, rfl⟩

/-! ### Decoding an encoding -/

/-! One equation of the decoder per kind of entry. -/

theorem decode_plain {op : Byte} {i : Instr} (h : primaryRow op = .plain i) (sl : StopLength) (rest : List Byte) :
    decode sl (op :: rest) = .ok (i, rest) := by
  simp only [decode, h]

theorem decode_imm8 {op : Byte} {f : Byte → Instr} (h : primaryRow op = .imm8 f) (sl : StopLength) (v : Byte)
    (rest : List Byte) : decode sl (op :: v :: rest) = .ok (f v, rest) := by
  simp only [decode, h]

theorem decode_imm16 {op : Byte} {f : Word → Instr} (h : primaryRow op = .imm16 f) (sl : StopLength) (lo hi : Byte)
    (rest : List Byte) : decode sl (op :: lo :: hi :: rest) = .ok (f (mkWord hi lo), rest) := by
  simp only [decode, h]

/-- A word operand is put together again from its two bytes (R77). -/
theorem decode_word {op : Byte} {f : Word → Instr} (h : primaryRow op = .imm16 f) (sl : StopLength) (w : Word)
    (rest : List Byte) : decode sl (op :: loByte w :: hiByte w :: rest) = .ok (f w, rest) := by
  rw [decode_imm16 h, mkWord_hi_lo]

theorem decode_secondary (sl : StopLength) (op : Byte) (rest : List Byte) :
    decode sl (0xCB :: op :: rest) = .ok (secondaryRow op, rest) := by
  simp only [decode, Laws.primaryRow_cb]

/-- Settles O4, row by row: a word operand is put together again from its two bytes; every other row decodes from its own
bytes by its entry in the map. -/
theorem decodeEncodeRoundTrip : Obligations.DecodeEncodeRoundTrip := by
  intro sl i rest
  cases i with
  | ldBCImm w | ldDEImm w | ldHLImm w | ldSPImm w | ldAtAbsSP w | ldAtAbsA w | ldAAtAbs w | jp w | jpNZ w | jpZ w | jpNC w
  | jpC w | call w | callNZ w | callZ w | callNC w | callC w => exact decode_word rfl sl w rest
  | stop => cases sl <;> rfl
  | _ => rfl

/-- Settles O2, by decoding each word. -/
theorem sampleWordsDecode : Obligations.SampleWordsDecode :=
  ⟨rfl, rfl, rfl, rfl, rfl, rfl, rfl, rfl, rfl, rfl, rfl, rfl, rfl, rfl, rfl⟩

/-! ### Encoding the entries of the maps -/

/-- The encoder writes what the entry of `op` in the primary map stands for as `op` and the entry's operand bytes, low byte
first (R71, R77, R81). -/
def EncodesEntry (sl : StopLength) (op : Byte) : Row → Prop
  | .plain i => encode sl i = [op]
  | .imm8 f => (fun v => encode sl (f v)) = fun v => [op, v]
  | .imm16 f => (fun w => encode sl (f w)) = fun w => [op, loByte w, hiByte w]
  | .stop => op = 0x10
  | .escape => op = 0xCB

/-- A property of bytes, from its 256 instances as literals. -/
theorem forall_byte {P : Byte → Prop} (h : ∀ n < 256, P (BitVec.ofNat 8 n)) (b : Byte) : P b := by
  simpa using h b.toNat b.isLt

theorem encodesEntry_primaryRow (sl : StopLength) : ∀ op, EncodesEntry sl op (primaryRow op) := by
  refine forall_byte fun n hn => ?_
  interval_cases n <;> exact rfl

theorem encode_secondaryRow (sl : StopLength) : ∀ op, encode sl (secondaryRow op) = [0xCB, op] := by
  refine forall_byte fun n hn => ?_
  interval_cases n <;> rfl

/-! ### What was decoded -/

/-- The bytes an instruction was decoded from are its encoding, but for the byte that STOP ignores (R86). -/
theorem decode_eq_ok {sl : StopLength} {bytes rest : List Byte} {i : Instr} (h : decode sl bytes = .ok (i, rest)) :
    bytes = encode sl i ++ rest ∨ (i = .stop ∧ sl = .two ∧ ∃ v, bytes = 0x10 :: v :: rest) := by
  cases bytes with
  | nil => cases h
  | cons op bs =>
    have henc := encodesEntry_primaryRow sl op
    simp only [decode] at h
    cases hr : primaryRow op with
    | plain j =>
      rw [hr] at h henc
      cases h
      exact .inl (congrArg (· ++ rest) henc.symm)
    | imm8 f =>
      rw [hr] at h henc
      cases bs with
      | nil => cases h
      | cons v bs =>
        cases h
        exact .inl (congrArg (· ++ rest) (congrFun henc v).symm)
    | imm16 f =>
      rw [hr] at h henc
      match bs, h with
      | lo :: hi :: bs, h =>
        cases h
        have hword : encode sl (f (mkWord hi lo)) = [op, lo, hi] := by simpa using congrFun henc (mkWord hi lo)
        exact .inl (congrArg (· ++ rest) hword.symm)
    | stop =>
      rw [hr] at h henc
      cases henc
      match sl, bs, h with
      | .one, bs, h => cases h; exact .inl rfl
      | .two, v :: bs, h => cases h; exact .inr ⟨rfl, rfl, v, rfl⟩
    | escape =>
      rw [hr] at h henc
      cases henc
      cases bs with
      | nil => cases h
      | cons op2 bs =>
        cases h
        exact .inl (congrArg (· ++ rest) (encode_secondaryRow sl op2).symm)

/-- Settles O5, from the bytes of what was decoded. -/
theorem encodeDecodeRoundTrip : Obligations.EncodeDecodeRoundTrip := by
  intro sl bytes rest i h
  obtain rfl | ⟨rfl, rfl, hv⟩ := decode_eq_ok h
  · split
    next hi =>
      subst hi
      cases sl with
      | one => rfl
      | two => exact ⟨0x00, rfl⟩
    next => rfl
  · exact hv

/-- The first byte of what was decoded says whether it is an instruction (R84). -/
theorem wf_of_decode {sl : StopLength} {op : Byte} {bs rest : List Byte} {i : Instr}
    (h : decode sl (op :: bs) = .ok (i, rest)) : i.wf = false ↔ op ∈ illegalOpcodes := by
  obtain heq | ⟨rfl, -, v, heq⟩ := decode_eq_ok h
  · obtain ⟨op', ops, henc, hwf⟩ := encode_eq_cons sl i
    rw [henc] at heq
    cases heq
    simp [hwf]
  · cases heq
    decide

/-- No row has more than two operand bytes (R70), so three bytes decode. -/
theorem decode_three_bytes (sl : StopLength) (b0 b1 b2 : Byte) (rest : List Byte) :
    ∃ i r, decode sl (b0 :: b1 :: b2 :: rest) = .ok (i, r) ∧ (r = b1 :: b2 :: rest ∨ r = b2 :: rest ∨ r = rest) := by
  cases hr : primaryRow b0 with
  | plain i => exact ⟨i, _, decode_plain hr .., .inl rfl⟩
  | imm8 f => exact ⟨f b1, _, decode_imm8 hr .., .inr (.inl rfl)⟩
  | imm16 f => exact ⟨f _, _, decode_imm16 hr .., .inr (.inr rfl)⟩
  | stop => cases sl with
    | one => exact ⟨.stop, _, by simp only [decode, hr], .inl rfl⟩
    | two => exact ⟨.stop, _, by simp only [decode, hr], .inr (.inl rfl)⟩
  | escape =>
    obtain rfl := Laws.primaryRow_escape b0 hr
    exact ⟨_, _, decode_secondary .., .inr (.inl rfl)⟩

/-- Settles O3: three bytes are enough for every row, and the first says whether the row is an instruction. -/
theorem decodingIsTotal : Obligations.DecodingIsTotal := by
  intro sl b0 b1 b2 rest
  obtain ⟨i, r, h, hr⟩ := decode_three_bytes sl b0 b1 b2 rest
  refine ⟨i, r, h, wf_of_decode h, ?_, hr⟩
  rintro rfl
  rw [decode_secondary] at h
  cases h
  exact ⟨rfl, rfl⟩

end Sys2Proof.Machine
end

section
/-! The eleven illegal opcodes: their rows, their meaning and the step that fetches one (30_encoding.md R84;
40_dispatch.md R103, R106). -/

namespace Sys2Proof.Machine

/-- Each illegal opcode is the entry of a row of its own form. -/
theorem primaryRow_illegal {op : Byte} (h : op ∈ illegalOpcodes) :
    ∃ i, primaryRow op = .plain i ∧ i.form = .illegal op := by
  simp only [illegalOpcodes, List.mem_cons, List.not_mem_nil, or_false] at h
  rcases h with rfl | rfl | rfl | rfl | rfl | rfl | rfl | rfl | rfl | rfl | rfl <;> exact ⟨_, rfl, rfl⟩

theorem encode_illegal {i : Instr} {op : Byte} (h : i.form = .illegal op) (sl : StopLength) : encode sl i = [op] := by
  rw [encode_eq_fieldBytes, h]
  rfl

theorem mem_illegalOpcodes_of_form {i : Instr} {op : Byte} (h : i.form = .illegal op) : op ∈ illegalOpcodes := by
  obtain ⟨op', ops, henc, hwf⟩ := encode_eq_cons .two i
  rw [encode_illegal h] at henc
  cases henc
  simpa [Instr.wf, h, Form.wf] using hwf

theorem exec_illegal {i : Instr} {op : Byte} (h : i.form = .illegal op) (s : State) :
    exec i s = .fault (.malformedOpcode .primary op (s.pc - 1#16)) := by
  rw [exec_eq_runForm, h]
  rfl

/-- The fetch of an illegal opcode ends in MalformedOpcode where it has no cost record (R103), and its meaning does where
it has one (R106). -/
theorem step_illegal {s : State} {op : Byte} (hr : s.running = true) (hop : op ∈ illegalOpcodes)
    (h : s.fetchesAt s.pc [op]) : step s = .fault (.malformedOpcode .primary op s.pc) := by
  obtain ⟨i, hrow, hform⟩ := primaryRow_illegal hop
  have h0 : (startStep s).fetchesAt (startStep s).pc [op] := by
    rw [startStep_pc]
    exact State.fetchesAt_congr s _ (startStep_cfg s) (startStep_mem s) _ _ h
  have hd : decode (startStep s).cfg.stopLength [op] = .ok (i, []) := decode_plain hrow ..
  unfold step
  simp only [startStep_running, hr, if_true]
  cases hc : costOf (startStep s).cfg (keyOfBytes [op]) with
  | none =>
    rw [fetchInstr_fetchesAt_noCost h0 hd hc, startStep_pc]
    rfl
  | some c =>
    rw [fetchInstr_fetchesAt h0 hd hc]
    simp [orFault, exec_illegal hform, finish]

/-- Settles O15, from the meaning of an illegal row and the step that fetches one. -/
theorem illegalOpcodesStop : Obligations.IllegalOpcodesStop :=
  ⟨fun _ _ s h => ⟨mem_illegalOpcodes_of_form h, encode_illegal h _, exec_illegal h s⟩, fun _ _ => step_illegal⟩

end Sys2Proof.Machine
end

section
/-! The dispatcher around the handler: the idle step, the step of an instruction that stands in plain RAM, and the key
without a cost record (40_dispatch.md R100 to R110, R113). -/

namespace Sys2Proof.Machine

/-- A step of a running core fetches an instruction, runs its meaning and charges for it (R113). -/
theorem step_running {s : State} (hr : s.running = true) :
    step s = orFault (fetchInstr (startStep s)) fun f => finish f.cost (exec f.instr f.state) := by
  simp only [step, startStep_running, hr, if_true]

/-- A step of a halted or stopped core is idle (R110). -/
theorem step_idle {s : State} (hr : s.running = false) : step s = .next (idle (startStep s)) := by
  simp [step, hr]

/-- What stands in plain RAM at PC still does after the start of a step. -/
theorem fetchesAt_startStep {s : State} {bs : List Byte} (h : s.fetchesAt s.pc bs) :
    (startStep s).fetchesAt (startStep s).pc bs := by
  rw [startStep_pc]
  exact State.fetchesAt_congr s _ (startStep_cfg s) (startStep_mem s) bs _ h

/-- Settles O11: nothing but the start of the step and the returned value. -/
theorem idleStepChangesOnlyIme : Obligations.IdleStepChangesOnlyIme := by
  refine ⟨fun s h => ?_, rfl⟩
  have hr : s.running = false := by simpa [State.running, imp_iff_not_or] using h
  rw [step_idle hr, startStep_eq]
  rfl

/-- Settles O7: the fetch answers the decoded instruction, its cost and the state with PC past the bytes. -/
theorem stepRunsDecodedInstruction : Obligations.StepRunsDecodedInstruction := by
  intro s bs i c hr h hd hc
  have hf : fetchInstr (startStep s) =
      .ok ⟨i, c, { startStep s with pc := (startStep s).pc + BitVec.ofNat 16 bs.length }⟩ :=
    fetchInstr_fetchesAt (fetchesAt_startStep h) (by rwa [startStep_cfg]) (by rwa [startStep_cfg])
  rw [step_running hr, hf, orFault_ok, startStep_eq]
  rfl

/-- Settles O14: the key is fetched, and its lack of a record ends the fetch before any operand byte (R103). -/
theorem missingCycleRecordStops : Obligations.MissingCycleRecordStops := by
  intro s k hr hk h hc
  have hf : fetchInstr (startStep s) = .error (.malformedOpcode k.space k.opcode s.pc) := by
    simp only [fetchInstr, fetchKey_fetchesAt hk (fetchesAt_startStep h), startStep_cfg, hc, startStep_pc]
  rw [step_running hr, hf, orFault_error]

end Sys2Proof.Machine
end

section
/-! Control transfers: the branch-taken marker and PC (10_state.md R34; 40_dispatch.md R104, R105; 47_control.md
R235). -/

namespace Sys2Proof.Machine

@[simp] theorem srcAfter_pc (x : Src8) (s : State) : (srcAfter x s).pc = s.pc := by cases x <;> simp [srcAfter]
@[simp] theorem srcAfter_taken (x : Src8) (s : State) : (srcAfter x s).taken = s.taken := by cases x <;> simp [srcAfter]
@[simp] theorem locAfter_pc (x : Loc8) (s : State) : (locAfter x s).pc = s.pc := by cases x <;> simp [locAfter]
@[simp] theorem locAfter_taken (x : Loc8) (s : State) : (locAfter x s).taken = s.taken := by cases x <;> simp [locAfter]
@[simp] theorem locStored_pc (x : Loc8) (s : State) (v : Byte) : (locStored x s v).pc = s.pc := by
  cases x <;> simp [locStored]
@[simp] theorem locStored_taken (x : Loc8) (s : State) (v : Byte) : (locStored x s v).taken = s.taken := by
  cases x <;> simp [locStored]
@[simp] theorem State.popped_pc (s : State) : s.popped.pc = s.pc := by simp [State.popped]
@[simp] theorem State.popped_taken (s : State) : s.popped.taken = s.taken := by simp [State.popped]
@[simp] theorem State.jump_taken (s : State) (w : Word) : (s.jump w).taken = true := rfl

/-- A form sets the marker exactly when it transfers control. -/
theorem formNext_taken (f : Form) (s : State) : (formNext f s).taken = (s.taken || f.takes s) := by
  cases f with
  | jpCC cc w | jrCC cc e | callCC cc w | retCC cc =>
    cases h : condHolds cc s.flags <;> simp [formNext, Form.takes, h]
  | _ => simp [formNext, Form.takes]

/-- A form that transfers no control leaves PC alone. -/
theorem formNext_pc {f : Form} {s : State} (h : f.takes s = false) : (formNext f s).pc = s.pc := by
  cases f with
  | jpCC cc w | jrCC cc e | callCC cc w | retCC cc =>
    have hcc : condHolds cc s.flags = false := h
    simp [formNext, hcc]
  | jp w | jpHL | jr e | call w | ret | reti | rst y => cases h
  | _ => simp [formNext]

/-- Settles O37, from what each form does to the marker and to PC. -/
theorem onlyTransfersMovePc : Obligations.OnlyTransfersMovePc := by
  intro i s t h
  obtain ⟨-, rfl⟩ := exec_eq_next.1 h
  exact ⟨formNext_taken _ s, formNext_pc⟩

/-! ### The length of an instruction (R70) -/

/-- The opcode bytes of a key and the operand bytes its row asks for are one, two or three. -/
theorem length_key_bounds (sl : StopLength) (k : Key) :
    1 ≤ k.bytes.length + k.operandBytes sl ∧ k.bytes.length + k.operandBytes sl ≤ 3 := by
  obtain ⟨sp, op⟩ := k
  cases sp with
  | secondary => simp [Key.bytes, Key.operandBytes]
  | primary =>
    simp only [Key.bytes, Key.operandBytes]
    cases primaryRow op with
    | stop => cases sl <;> simp [Row.operandBytes]
    | _ => simp [Row.operandBytes]

/-- What decodes whole is one, two or three bytes. -/
theorem length_bounds_of_decode {sl : StopLength} {bs : List Byte} {i : Instr} (h : decode sl bs = .ok (i, [])) :
    1 ≤ bs.length ∧ bs.length ≤ 3 := by
  obtain ⟨ops, hbs, hops, -⟩ := decode_split h
  rw [hbs, List.append_nil, List.length_append, hops]
  exact length_key_bounds sl _

/-- An instruction was decoded from as many bytes as its encoding has, whatever the byte that STOP ignores. -/
theorem length_of_decode {sl : StopLength} {bs : List Byte} {i : Instr} (h : decode sl bs = .ok (i, [])) :
    bs.length = (encode sl i).length := by
  obtain rfl | ⟨rfl, rfl, v, rfl⟩ := decode_eq_ok h
  · rw [List.append_nil]
  · rfl

/-- Settles O8: the fetch moves PC past the bytes, and the form leaves it there. -/
theorem pcAdvancesByLength : Obligations.PcAdvancesByLength := by
  intro s t bs i hr h hd ht htakes
  obtain ⟨n, rfl⟩ := step_eq_formNext hr h hd ht
  have hlen := length_of_decode hd
  have h0 : i.form.takes (startStep { s with pc := s.pc + BitVec.ofNat 16 bs.length }) = false := by
    rw [startStep_eq]
    exact htakes
  refine ⟨?_, hlen ▸ length_bounds_of_decode hd⟩
  rw [← hlen]
  exact (formNext_pc h0).trans (startStep_pc _)

end Sys2Proof.Machine
end

section
/-! The fetch of an instruction from any memory, devices and refusing ranges included, as one list of bytes; the steps
that complete, and how many accesses they make (40_dispatch.md R102 to R107, R112; 20_memory.md R50, R60). -/

namespace Sys2Proof.Machine

/-! ### One byte after another -/

theorem bind_eq_ok {α β : Type} {x : Except Fault α} {k : α → Except Fault β} {r : β} :
    x.bind k = .ok r ↔ ∃ v, x = .ok v ∧ k v = .ok r := by
  cases x <;> simp [Except.bind]

theorem bind_eq_error {α β : Type} {x : Except Fault α} {k : α → Except Fault β} {f : Fault} :
    x.bind k = .error f ↔ x = .error f ∨ ∃ v, x = .ok v ∧ k v = .error f := by
  cases x <;> simp [Except.bind]

theorem fetchBytes_succ (n : Nat) (s : State) : fetchBytes (n + 1) s =
    (fetch8 s).bind fun r => (fetchBytes n r.2).bind fun q => .ok (r.1 :: q.1, q.2) := by
  rw [fetchBytes]
  cases fetch8 s with
  | error f => rfl
  | ok r => cases h : fetchBytes n r.2 <;> simp [Except.bind, h]

theorem fetchKey_eq_bind (s : State) : fetchKey s = (fetch8 s).bind fun r =>
    if r.1 = 0xCB then (fetch8 r.2).bind fun q => .ok ({ space := .secondary, opcode := q.1 }, q.2)
    else .ok ({ space := .primary, opcode := r.1 }, r.2) := by
  unfold fetchKey
  cases fetch8 s with
  | error f => rfl
  | ok r => cases h : fetch8 r.2 <;> simp [Except.bind, h]

theorem OnlyFetched.cfg_eq {s t : State} (h : OnlyFetched s t) : t.cfg = s.cfg := by
  rw [h]

/-- Two fetches in a row are one fetch of all the bytes. -/
theorem fetchBytes_append {m n : Nat} {s t u : State} {xs ys : List Byte} (h : fetchBytes m s = .ok (xs, t))
    (h' : fetchBytes n t = .ok (ys, u)) : fetchBytes (m + n) s = .ok (xs ++ ys, u) := by
  induction m generalizing s xs with
  | zero =>
    cases h
    rwa [Nat.zero_add]
  | succ m ih =>
    rw [fetchBytes_succ, bind_eq_ok] at h
    obtain ⟨r, hr, h⟩ := h
    obtain ⟨q, hq, h⟩ := bind_eq_ok.1 h
    cases h
    rw [Nat.succ_add, fetchBytes_succ, hr]
    simp [Except.bind, ih hq]

/-- The opcode bytes of a key are fetched one after another (R102). -/
theorem fetchBytes_of_fetchKey {s t : State} {k : Key} (h : fetchKey s = .ok (k, t)) :
    fetchBytes k.bytes.length s = .ok (k.bytes, t) := by
  rw [fetchKey_eq_bind, bind_eq_ok] at h
  obtain ⟨r, hr, h⟩ := h
  split at h
  next hcb =>
    obtain ⟨q, hq, h⟩ := bind_eq_ok.1 h
    cases h
    simp [Key.bytes, fetchBytes, hr, hq, hcb]
  next =>
    cases h
    simp [Key.bytes, fetchBytes, hr]

/-! ### What a fetch can end in -/

/-- An error that the memory interface's refusal of a fetch explains (R62, R262). -/
def FetchRefused (cfg : Config) (f : Fault) : Prop :=
  ∃ a n, cfg.faultInfo a .fetch = some n ∧ f = .memoryFault a .fetch n

theorem fetch8_refused {s : State} {f : Fault} (h : fetch8 s = .error f) : FetchRefused s.cfg f :=
  ⟨s.pc, fetch8_error h⟩

theorem fetchBytes_refused {n : Nat} {s : State} {f : Fault} (h : fetchBytes n s = .error f) :
    FetchRefused s.cfg f := by
  induction n generalizing s with
  | zero => cases h
  | succ n ih =>
    rw [fetchBytes_succ, bind_eq_error] at h
    obtain h | ⟨r, hr, h⟩ := h
    · exact fetch8_refused h
    · obtain h | ⟨q, -, h⟩ := bind_eq_error.1 h
      · exact (fetch8_only hr).1.cfg_eq ▸ ih h
      · cases h

theorem fetchKey_refused {s : State} {f : Fault} (h : fetchKey s = .error f) : FetchRefused s.cfg f := by
  rw [fetchKey_eq_bind, bind_eq_error] at h
  obtain h | ⟨r, hr, h⟩ := h
  · exact fetch8_refused h
  · split at h
    · obtain h | ⟨q, -, h⟩ := bind_eq_error.1 h
      · exact (fetch8_only hr).1.cfg_eq ▸ fetch8_refused h
      · cases h
    · cases h

/-- Everything a fetch of an instruction can do: meet a refused byte (R262), fetch a key without a cost record (R103),
or fetch bytes that decode to the instruction it answers. -/
theorem fetchInstr_cases (s : State) :
    (∃ f, FetchRefused s.cfg f ∧ fetchInstr s = .error f) ∨
    (∃ k t, fetchKey s = .ok (k, t) ∧ costOf s.cfg k = none ∧
      fetchInstr s = .error (.malformedOpcode k.space k.opcode s.pc)) ∨
    ∃ bs f, fetchBytes bs.length s = .ok (bs, f.state) ∧ decode s.cfg.stopLength bs = .ok (f.instr, []) ∧
      fetchInstr s = .ok f := by
  unfold fetchInstr
  cases hkey : fetchKey s with
  | error f => exact .inl ⟨f, fetchKey_refused hkey, rfl⟩
  | ok r =>
    obtain ⟨k, t⟩ := r
    obtain ⟨honly, -, hk⟩ := fetchKey_only hkey
    cases hcost : costOf s.cfg k with
    | none => exact .inr (.inl ⟨k, t, rfl, hcost, by simp only [hcost]⟩)
    | some c =>
      cases hops : fetchBytes (k.operandBytes s.cfg.stopLength) t with
      | error f => exact .inl ⟨f, honly.cfg_eq ▸ fetchBytes_refused hops, by simp only [hcost, hops]⟩
      | ok q =>
        obtain ⟨ops, u⟩ := q
        obtain ⟨-, -, hlen⟩ := fetchBytes_only hops
        obtain ⟨i, hi⟩ := decode_fetched hk hlen
        refine .inr (.inr ⟨k.bytes ++ ops, ⟨i, c, u⟩, ?_, hi, by simp only [hcost, hops, hi]⟩)
        rw [List.length_append, hlen]
        exact fetchBytes_append (fetchBytes_of_fetchKey hkey) hops

/-- An instruction fetched is what its bytes, fetched one after another, decode to. -/
theorem fetchInstr_eq_ok {s : State} {f : Fetched} (h : fetchInstr s = .ok f) :
    ∃ bs, fetchBytes bs.length s = .ok (bs, f.state) ∧ decode s.cfg.stopLength bs = .ok (f.instr, []) := by
  obtain ⟨e, -, he⟩ | ⟨k, t, -, -, he⟩ | ⟨bs, g, hbs, hd, hg⟩ := fetchInstr_cases s
  · simp [he] at h
  · simp [he] at h
  · obtain rfl : g = f := Except.ok.inj (hg.symm.trans h)
    exact ⟨bs, hbs, hd⟩

/-! ### At most five accesses (R112) -/

theorem fetch8_io_length {s t : State} {b : Byte} (h : fetch8 s = .ok (b, t)) : t.io.length ≤ s.io.length + 1 := by
  obtain ⟨-, heq⟩ := fetch8_eq_ok.1 h
  cases heq
  simp only [State.afterRead_io]
  split <;> simp

/-- A device sees each byte fetched from it once. -/
theorem fetchBytes_io_length {n : Nat} {s t : State} {bs : List Byte} (h : fetchBytes n s = .ok (bs, t)) :
    t.io.length ≤ s.io.length + n := by
  induction n generalizing s bs with
  | zero => cases h; exact Nat.le_refl _
  | succ n ih =>
    rw [fetchBytes_succ, bind_eq_ok] at h
    obtain ⟨r, hr, h⟩ := h
    obtain ⟨q, hq, h⟩ := bind_eq_ok.1 h
    cases h
    have hfirst := fetch8_io_length hr
    have hrest := ih hq
    omega

theorem length_accesses (f : Form) (s : State) : (f.accesses s).length ≤ 2 := by
  cases f with
  | alu op x | inc8 x | dec8 x | shift op x | bit b x | res b x | set b x =>
    cases x <;> simp [Form.accesses, Form.readAddrs, Form.storeAddrs]
  | callCC cc w | retCC cc =>
    cases h : condHolds cc s.flags <;> simp [Form.accesses, Form.readAddrs, Form.storeAddrs, h]
  | _ => simp [Form.accesses, Form.readAddrs, Form.storeAddrs]

/-- An instruction adds at most its data accesses to what the devices have seen. -/
theorem exec_io_length {i : Instr} {s t : State} (h : exec i s = .next t) : t.io.length ≤ s.io.length + 2 := by
  have hseen := congrArg List.length (accessesMadeInOrder i s t h)
  simp only [List.length_map, List.length_append, List.length_reverse] at hseen
  have hfilter := List.length_filter_le (fun x => s.cfg.isDevice x.2) (i.form.accesses s)
  have htwo := length_accesses i.form s
  omega

/-- Settles O20: at most three bytes are fetched, and an instruction makes at most two data accesses. -/
theorem stepMakesAtMostFiveAccesses : Obligations.StepMakesAtMostFiveAccesses := by
  intro s t h
  obtain ⟨-, rfl⟩ | ⟨-, f, u, hf, hu, rfl⟩ := step_cases h
  · simp [idle]
  · obtain ⟨bs, hbs, hd⟩ := fetchInstr_eq_ok hf
    have hfetch := fetchBytes_io_length hbs
    rw [startStep_io] at hfetch
    have hlen := (length_bounds_of_decode hd).2
    have hexec := exec_io_length hu
    simp only
    omega

/-! ### Progress -/

/-- The first of some bytes fetched is the byte at PC. -/
theorem fetchBytes_head {n : Nat} {s t : State} {b : Byte} {bs : List Byte} (h : fetchBytes n s = .ok (b :: bs, t)) :
    b = s.peek s.pc := by
  cases n with
  | zero => cases h
  | succ n =>
    rw [fetchBytes_succ, bind_eq_ok] at h
    obtain ⟨r, hr, h⟩ := h
    obtain ⟨q, -, h⟩ := bind_eq_ok.1 h
    cases h
    obtain ⟨-, rfl⟩ := fetch8_eq_ok.1 hr
    rfl

theorem fetchKey_primary {s t : State} {op : Byte} (h : fetchKey s = .ok (⟨.primary, op⟩, t)) : op = s.peek s.pc :=
  fetchBytes_head (fetchBytes_of_fetchKey h)

/-- Bytes fetched from an address that holds no illegal opcode decode to an instruction (R84). -/
theorem wf_of_fetchBytes {s t : State} {n : Nat} {bs : List Byte} {i : Instr} (h : fetchBytes n s = .ok (bs, t))
    (hd : decode s.cfg.stopLength bs = .ok (i, [])) (hop : s.peek s.pc ∉ illegalOpcodes) : i.wf = true := by
  cases bs with
  | nil => cases hd
  | cons b bs =>
    obtain rfl := fetchBytes_head h
    simpa using mt (wf_of_decode hd).1 hop

theorem faultInfo_of_faultless {cfg : Config} (h : cfg.faultless) (a : Word) (k : Access) :
    cfg.faultInfo a k = none := by
  rw [Config.faultInfo, h]
  rfl

theorem firstFault_of_faultless {cfg : Config} (h : cfg.faultless) (l : List (Access × Word)) :
    cfg.firstFault l = none := by
  simp [Config.firstFault, faultInfo_of_faultless h]

/-- A complete table has a record for every key fetched at an address that holds no illegal opcode (R109). -/
theorem costOf_fetchKey {s t : State} {k : Key} (hc : s.cfg.costsComplete) (h : fetchKey s = .ok (k, t))
    (hop : s.peek s.pc ∉ illegalOpcodes) : costOf s.cfg k ≠ none := by
  refine Option.isSome_iff_ne_none.1 (hc k fun hsp => ⟨(fetchKey_only h).2.2 hsp, ?_⟩)
  obtain ⟨sp, op⟩ := k
  cases hsp
  exact fetchKey_primary h ▸ hop

/-- Where no access is refused and every key has a cost record, an instruction is fetched (R103, R107). -/
theorem fetchInstr_answers {s : State} (hf : s.cfg.faultless) (hc : s.cfg.costsComplete)
    (hop : s.peek s.pc ∉ illegalOpcodes) : ∃ f, fetchInstr s = .ok f := by
  obtain ⟨_, ⟨a, n, ha, -⟩, -⟩ | ⟨k, t, hk, hnone, -⟩ | ⟨-, f, -, -, h⟩ := fetchInstr_cases s
  · simp [faultInfo_of_faultless hf] at ha
  · exact absurd hnone (costOf_fetchKey hc hk hop)
  · exact ⟨f, h⟩

/-- Where no access is refused, an instruction completes. -/
theorem exec_answers {i : Instr} {s : State} (hf : s.cfg.faultless) (hi : i.wf = true) : ∃ t, exec i s = .next t := by
  have h := accessesDecideOutcome i s hi
  rwa [firstFault_of_faultless hf] at h

/-- Settles O16: an instruction is fetched, and it completes. -/
theorem stepAnswersUnlessIllegal : Obligations.StepAnswersUnlessIllegal := by
  intro s hf hc hr hop
  have hpeek : (startStep s).peek (startStep s).pc = s.peek s.pc := by
    rw [startStep_eq]
    rfl
  rw [← startStep_cfg s] at hf hc
  rw [← hpeek] at hop
  obtain ⟨f, h⟩ := fetchInstr_answers hf hc hop
  obtain ⟨bs, hbs, hd⟩ := fetchInstr_eq_ok h
  have hcfg : f.state.cfg = (startStep s).cfg := (fetchBytes_only hbs).1.cfg_eq
  obtain ⟨t, ht⟩ := exec_answers (hcfg ▸ hf) (wf_of_fetchBytes hbs hd hop)
  rw [step_running hr, h, orFault_ok, ht]
  exact ⟨_, rfl⟩

end Sys2Proof.Machine
end

section
/-! The 8-bit transfers (41_load8.md R120 to R139): a row does what its form does, and where its access is not refused the
form's next state is the transfer. -/

namespace Sys2Proof.Machine

/-- A row whose form's accesses are not refused makes the form's next state. -/
theorem exec_of_form {i : Instr} {f : Form} {s : State} (hi : i.form = f) (hok : formOk f s) :
    exec i s = .next (formNext f s) := by
  subst hi
  exact exec_eq_next.2 ⟨hok, rfl⟩

/-- Settles O43: the five forms one by one. -/
theorem load8Registers : Obligations.Load8Registers :=
  ⟨fun _ _ _ _ hi => exec_of_form hi trivial, fun _ _ _ _ hi => exec_of_form hi trivial,
    fun _ _ _ hi hread => exec_of_form hi hread, fun _ _ _ hi hwrite => exec_of_form hi hwrite,
    fun _ _ _ hi hwrite => exec_of_form hi hwrite⟩

/-! ### HL moves by one from where it was before the access, which leaves it alone (R130 to R133) -/

theorem State.ptrAdjust_hlInc_of_hl_eq {s t : State} (h : t.hl = s.hl) :
    t.ptrAdjust .hlInc = t.setHL (BitVec.ofNat 16 (s.hl.toNat + 1)) := by
  rw [State.ptrAdjust, h, add_one_eq_ofNat]

theorem State.ptrAdjust_hlDec_of_hl_eq {s t : State} (h : t.hl = s.hl) :
    t.ptrAdjust .hlDec = t.setHL (BitVec.ofNat 16 (s.hl.toNat + 65535)) := by
  rw [State.ptrAdjust, h, sub_one_eq_ofNat]

/-- Settles O44, pair by pair: BC and DE stay, and HL moves after the access. -/
theorem load8ThroughPairs : Obligations.Load8ThroughPairs := by
  intro i p s
  have hread : ({ s.afterRead s.hl with a := s.peek s.hl } : State).hl = s.hl := s.hl_afterRead s.hl
  have hwrite : (s.poke s.hl s.a).hl = s.hl := s.hl_poke s.hl s.a
  cases p with
  | bc | de => exact ⟨exec_of_form, exec_of_form⟩
  | hlInc =>
    exact ⟨fun hi hok => (exec_of_form hi hok).trans (congrArg _ (State.ptrAdjust_hlInc_of_hl_eq hread)),
      fun hi hok => (exec_of_form hi hok).trans (congrArg _ (State.ptrAdjust_hlInc_of_hl_eq hwrite))⟩
  | hlDec =>
    exact ⟨fun hi hok => (exec_of_form hi hok).trans (congrArg _ (State.ptrAdjust_hlDec_of_hl_eq hread)),
      fun hi hok => (exec_of_form hi hok).trans (congrArg _ (State.ptrAdjust_hlDec_of_hl_eq hwrite))⟩

/-- Settles O45: the six rows one by one, with the high-page address as a number. -/
theorem load8AbsoluteAndHighPage : Obligations.Load8AbsoluteAndHighPage := by
  intro s w n
  simp only [← highPage_eq_ofNat]
  exact ⟨exec_of_form (f := .ldAbsA w) rfl, exec_of_form (f := .ldAAbs w) rfl, exec_of_form (f := .ldhPageA n) rfl,
    exec_of_form (f := .ldhAPage n) rfl, exec_of_form (f := .ldhCA) rfl, exec_of_form (f := .ldhAC) rfl⟩

end Sys2Proof.Machine
end

section
/-! The 16-bit transfers (42_load16.md R140 to R145). What a push and a pop do is said once, for any pair; a pop after a
push on plain RAM gets the word pushed and undoes the move of SP. -/

namespace Sys2Proof.Machine

/-- Settles O46: the six rows one by one, with the halves of a word as numbers. -/
theorem load16 : Obligations.Load16 := by
  intro s w
  simp only [← hiByte_eq_ofNat, ← loByte_eq_ofNat, ← mkWord_eq_ofNat]
  exact ⟨exec_of_form (f := .ldPairImm .bc w) rfl trivial, exec_of_form (f := .ldPairImm .de w) rfl trivial,
    exec_of_form (f := .ldPairImm .hl w) rfl trivial, exec_of_form (f := .ldPairImm .sp w) rfl trivial,
    exec_of_form (f := .ldSPHL) rfl trivial, fun hlo hhi => exec_of_form (f := .ldAbsSP w) rfl ⟨hlo, hhi⟩⟩

/-- The word a pop reads, in the terms of its two bytes. -/
theorem State.poppedWord_eq_mkWord (s : State) :
    s.poppedWord = mkWord ((s.afterRead s.sp).peek (s.sp + 1#16)) (s.peek s.sp) :=
  (mkWord_eq_ofNat _ _).symm

theorem exec_push {i : Instr} {p : StackPair} {s : State} (hi : i.form = .push p) (hok : s.pushOk) :
    exec i s = .next (s.pushed (s.getStackPair p)) := by
  rw [exec_of_form hi hok, State.pushed_eq]
  rfl

theorem exec_pop {i : Instr} {p : StackPair} {s : State} (hi : i.form = .pop p) (hok : s.popOk) :
    exec i s = .next (s.popped.setStackPair p s.poppedWord) := by
  rw [exec_of_form hi hok, State.poppedWord_eq_mkWord]
  rfl

/-- Settles O47: the accessors of the four pairs are the named views. -/
theorem pushAndPop : Obligations.PushAndPop := by
  intro i p s
  cases p with
  | bc | de | hl | af => exact ⟨exec_push, exec_pop⟩

@[simp] theorem State.pushed_sp (s : State) (v : Word) : (s.pushed v).sp = s.sp - 2#16 := by simp [State.pushed]
@[simp] theorem State.pushed_cfg (s : State) (v : Word) : (s.pushed v).cfg = s.cfg := by simp [State.pushed]

/-- On plain RAM a pop gets the word pushed and undoes the push, but for the two bytes below the stack (R14). -/
theorem State.pop_pushed_ram {s : State} (v : Word) (hw : s.mem.wf = true) (h1 : s.ramAt (s.sp - 2#16))
    (h2 : s.ramAt (s.sp - 2#16 + 1#16)) :
    (s.pushed v).popOk ∧ (s.pushed v).poppedWord = v ∧ (s.pushed v).popped = { s with mem := (s.pushed v).mem } := by
  obtain ⟨hpushed, hlo, hhi⟩ := State.pushed_ram v hw h1 h2
  have hram {a : Word} (h : s.ramAt a) : (s.pushed v).ramAt a := by simpa [State.ramAt] using h
  rw [← s.pushed_sp v] at h1 h2 hlo hhi
  obtain ⟨hok, hword, hpopped⟩ := State.popped_ram (hram h1) (hram h2) hlo hhi
  refine ⟨hok, (State.poppedWord_eq_mkWord _).trans hword, hpopped.trans ?_⟩
  rw [State.pushed_sp, BitVec.sub_add_cancel, hpushed]

/-- Settles O39: the push leaves a state from which the pop gets the word back. -/
theorem pushPopTransfers : Obligations.PushPopTransfers := by
  intro i j p q s hi hj ⟨hw, _⟩ h1 h2
  obtain ⟨hok, hword, hpopped⟩ := State.pop_pushed_ram (s.getStackPair p) hw h1 h2
  obtain ⟨⟨-, -, hlo⟩, -, -, hhi⟩ := And.intro h1 h2
  refine ⟨_, exec_push hi ⟨hlo, hhi⟩, s.pushed_sp _, ?_⟩
  rw [exec_pop hj hok, hword, hpopped]

end Sys2Proof.Machine
end

section
/-! The 8-bit arithmetic and logic (43_alu8.md R150 to R187). Each operator is said once, in the terms of its rule; the
reading and writing back of its operand is the form's next state. -/

namespace Sys2Proof.Machine

/-! ### The operators in the terms of the rules -/

/-- A flag counted as a carry or a borrow. -/
theorem toNat_decide_eq_ite (p : Prop) [Decidable p] : (decide p).toNat = if p then 1 else 0 := by
  by_cases h : p <;> simp [h]

/-- The result byte is zero where the unbounded result is a multiple of 256. -/
theorem ofNat_eq_zero_iff_mod (n : Nat) : BitVec.ofNat 8 n = 0 ↔ n % 256 = 0 := by
  rw [← BitVec.toNat_inj, BitVec.toNat_ofNat]
  rfl

/-- The carry goes into the sum for ADC only (R151). -/
theorem aluResult_add {op : AluOp} (h : op = .add ∨ op = .adc) (a b : Byte) (c : Bool) :
    aluResult op a b c = add8 a b (decide (op = .adc ∧ c = true)) := by
  obtain rfl | rfl := h
  · rfl
  · simp [aluResult]

/-- The carry goes into the difference for SBC only, and CP keeps the accumulator (R152). -/
theorem aluResult_sub {op : AluOp} (h : op = .sub ∨ op = .sbc ∨ op = .cp) (a b : Byte) (c : Bool) :
    aluResult op a b c =
      (if op = .cp then a else (sub8 a b (decide (op = .sbc ∧ c = true))).1,
        (sub8 a b (decide (op = .sbc ∧ c = true))).2) := by
  obtain rfl | rfl | rfl := h
  · rfl
  · simp [aluResult]
  · rfl

/-- The byte `SUB8` leaves, as a number. -/
theorem sub8_fst (a b : Byte) (cin : Bool) :
    (sub8 a b cin).1 = BitVec.ofNat 8 (a.toNat + 512 - (b.toNat + cin.toNat)) :=
  ofInt_sub_eq_ofNat _ _ _ (by have := b.isLt; have := cin.toNat_le; omega)

/-- `INC8` adds one: it carries out of the byte from 0xFF and out of the nibble from 15 (R156). -/
theorem incResult_eq (v : Byte) (f : Flags) : incResult v f =
    (v + 1#8, { z := decide (v = 0xFF), n := false, h := decide (v.toNat % 16 = 15), c := f.c }) := by
  have hr : BitVec.ofNat 8 (v.toNat + 1) = v + 1#8 := by rw [BitVec.ofNat_add, BitVec.ofNat_toNat, BitVec.setWidth_eq]
  have hz : v + 1#8 = 0 ↔ v = 0xFF := by bv_omega
  have hh : lowNibble v + 1 > 0x0F ↔ v.toNat % 16 = 15 := by unfold lowNibble; omega
  simp only [incResult, hr, hz, hh]

/-- `DEC8` takes one: it leaves 0 from 1 and borrows from the nibble at 0 (R157). -/
theorem decResult_eq (v : Byte) (f : Flags) : decResult v f =
    (v - 1#8, { z := decide (v = 0x01), n := true, h := decide (v.toNat % 16 = 0), c := f.c }) := by
  have hr : BitVec.ofInt 8 ((v.toNat : Int) - 1) = v - 1#8 := by
    rw [Int.sub_eq_add_neg, BitVec.ofInt_add, BitVec.ofInt_neg, BitVec.ofInt_natCast, BitVec.ofNat_toNat,
      BitVec.setWidth_eq, sub_eq_add_neg]
    rfl
  have hz : v - 1#8 = 0 ↔ v = 0x01 := sub_eq_zero
  have hh : lowNibble v < 1 ↔ v.toNat % 16 = 0 := Nat.lt_one_iff
  simp only [decResult, hr, hz, hh]

/-! ### The rows -/

/-- Settles O49: the accumulator and the flags of the one sum, with the carry as a number. -/
theorem addWithCarry : Obligations.AddWithCarry := by
  intro i op src s hi hop hok
  rw [exec_of_form hi hok, formNext, aluResult_add hop]
  simp only [add8, toNat_decide_eq_ite, ofNat_eq_zero_iff_mod, lowNibble]

/-- Settles O50: the accumulator and the flags of the one difference, with the borrow as a number. -/
theorem subtractAndCompare : Obligations.SubtractAndCompare := by
  intro i op src s hi hop hok
  rw [exec_of_form hi hok, formNext, aluResult_sub hop]
  simp only [← toNat_decide_eq_ite, ← sub8_fst]
  rfl

/-- Settles O51, operator by operator: the byte each leaves and the bits of that byte. -/
theorem bitwiseLogic : Obligations.BitwiseLogic := by
  intro i op src s hi hop hok
  obtain rfl | rfl | rfl := hop
  · exact ⟨s.a &&& srcValue src s, fun k _ => BitVec.getLsbD_and, exec_of_form hi hok⟩
  · exact ⟨s.a ||| srcValue src s, fun k _ => BitVec.getLsbD_or, exec_of_form hi hok⟩
  · exact ⟨s.a ^^^ srcValue src s, fun k _ => BitVec.getLsbD_xor, exec_of_form hi hok⟩

/-- Settles O52: the operand is read, changed by `INC8` or `DEC8` and written back. -/
theorem incrementDecrement8 : Obligations.IncrementDecrement8 := by
  intro i x s hok
  refine ⟨fun hi => ?_, fun hi => ?_⟩
  · rw [exec_of_form hi hok, formNext, incResult_eq]
  · rw [exec_of_form hi hok, formNext, decResult_eq]

end Sys2Proof.Machine
end

section
/-! The 16-bit arithmetic (44_alu16.md R190 to R194): no row makes a data access, so each leaves its form's next state; what
is left is the word moved by one or by a signed displacement, as a number modulo 65536. -/

namespace Sys2Proof.Machine

/-- Settles O48: the signed displacement as a number; the flags are those of `SPADD`. -/
theorem stackPointerOffset : Obligations.StackPointerOffset := by
  intro s e
  simp only [← add_sext16]
  exact ⟨exec_of_form (f := .addSPOff e) rfl trivial, exec_of_form (f := .ldHLSPOff e) rfl trivial⟩

/-- The sum, the carries out of bits 11 and 15 and the kept Z are those of `addHLResult` (R191). -/
theorem exec_addHL {i : Instr} {p : Pair} {s : State} (hi : i.form = .addHL p) :
    exec i s =
      .next { s.setHL (BitVec.ofNat 16 (s.hl.toNat + (s.getPair p).toNat)) with
        flags := { z := s.flags.z, n := false, h := decide (s.hl.toNat % 4096 + (s.getPair p).toNat % 4096 > 4095),
                   c := decide (s.hl.toNat + (s.getPair p).toNat > 65535) } } :=
  exec_of_form hi trivial

/-- The pair moves up by one modulo 65536, and no flag moves (R192). -/
theorem exec_inc16 {i : Instr} {p : Pair} {s : State} (hi : i.form = .inc16 p) :
    exec i s = .next (s.setPair p (BitVec.ofNat 16 ((s.getPair p).toNat + 1))) := by
  rw [exec_of_form hi trivial, formNext, add_one_eq_ofNat]

/-- The pair moves down by one modulo 65536, and no flag moves (R193). -/
theorem exec_dec16 {i : Instr} {p : Pair} {s : State} (hi : i.form = .dec16 p) :
    exec i s = .next (s.setPair p (BitVec.ofNat 16 ((s.getPair p).toNat + 65535))) := by
  rw [exec_of_form hi trivial, formNext, sub_one_eq_ofNat]

/-- Settles O53: the accessor of each of the four pairs is its named view. -/
theorem arithmetic16 : Obligations.Arithmetic16 := by
  intro i p s
  cases p with
  | bc | de | hl | sp => exact ⟨exec_addHL, exec_inc16, exec_dec16⟩

end Sys2Proof.Machine
end

section
/-! Rotates, decimal adjust and flag operations (45_rotate_misc.md R200 to R208; 95_test_vectors.md S7). What each rotate and
each correction does to the byte is said once, as a number; the rows are their forms' next states, and the claims about pairs
of rows are facts about these numbers. -/

namespace Sys2Proof.Machine

/-! ### The rotates as numbers (R200 to R203) -/

theorem toNat_bitAt {i : Nat} (hi : i < 8) (b : Bool) : (bitAt i b).toNat = 2 ^ i * b.toNat := by
  have hlt : 2 ^ i < 256 := Nat.pow_lt_pow_right (by decide) hi
  cases b with
  | false => rfl
  | true => simpa [bitAt, Nat.shiftLeft_eq] using hlt

/-- A rotate left through the carry doubles, adds the carry at the bottom and moves bit 7 out (R202). -/
theorem shiftResult_rl (v : Byte) (c : Bool) :
    shiftResult .rl v c = (BitVec.ofNat 8 (2 * v.toNat + c.toNat), v.toNat.testBit 7) := by
  refine congrArg₂ Prod.mk (BitVec.eq_of_toNat_eq ?_) rfl
  have hc := c.toNat_le
  have hdouble : v.toNat <<< 1 % 2 ^ 8 = 2 ^ 1 * (v.toNat % 128) := by rw [Nat.shiftLeft_eq]; omega
  have hor := Nat.two_pow_add_eq_or_of_lt (i := 1) (b := c.toNat) (by omega) (v.toNat % 128)
  simp only [BitVec.toNat_or, BitVec.toNat_shiftLeft, BitVec.toNat_ofNat, toNat_bitAt (by decide : 0 < 8),
    hdouble, pow_zero, one_mul, ← hor]
  omega

/-- A rotate right through the carry halves, adds the carry at the top and moves bit 0 out (R203). -/
theorem shiftResult_rr (v : Byte) (c : Bool) :
    shiftResult .rr v c = (BitVec.ofNat 8 (v.toNat / 2 + 128 * c.toNat), v.toNat.testBit 0) := by
  refine congrArg₂ Prod.mk (BitVec.eq_of_toNat_eq ?_) rfl
  have hv := v.isLt
  have hc := c.toNat_le
  have hor := Nat.two_pow_add_eq_or_of_lt (i := 7) (b := v.toNat / 2) (by omega) c.toNat
  simp only [BitVec.toNat_or, BitVec.toNat_ushiftRight, Nat.shiftRight_eq_div_pow, BitVec.toNat_ofNat,
    toNat_bitAt (by decide : 7 < 8), pow_one, Nat.or_comm (v.toNat / 2), ← hor]
  omega

/-- Bit 7 alone, at the bottom. -/
theorem ushiftRight_seven (v : Byte) : v >>> 7 = bitAt 0 (v.getLsbD 7) := by
  refine BitVec.eq_of_getLsbD_eq fun j hj => ?_
  rw [BitVec.getLsbD_ushiftRight, getLsbD_bitAt hj]
  cases j with
  | zero => simp
  | succ j => simp [v.getLsbD_of_ge (7 + (j + 1)) (by omega)]

/-- Bit 0 alone, at the top. -/
theorem shiftLeft_seven (v : Byte) : v <<< 7 = bitAt 7 (v.getLsbD 0) := by
  refine BitVec.eq_of_getLsbD_eq fun j hj => ?_
  rw [BitVec.getLsbD_shiftLeft, getLsbD_bitAt hj]
  obtain rfl | hlt : j = 7 ∨ j < 7 := by omega
  · simp
  · simp [hlt, hlt.ne]

theorem shiftResult_rlc (v : Byte) (c : Bool) : shiftResult .rlc v c = (v.rotateLeft 1, v.toNat.testBit 7) := by
  rw [shiftResult, ← ushiftRight_seven, BitVec.rotateLeft_def]
  rfl

theorem shiftResult_rrc (v : Byte) (c : Bool) : shiftResult .rrc v c = (v.rotateRight 1, v.toNat.testBit 0) := by
  rw [shiftResult, ← shiftLeft_seven, BitVec.rotateRight_def]
  rfl

/-- The right rotate through the carry undoes the left one. -/
theorem shiftResult_rr_rl (v : Byte) (c : Bool) :
    shiftResult .rr (shiftResult .rl v c).1 (shiftResult .rl v c).2 = (v, c) := by
  have hv := v.isLt
  have hc := c.toNat_le
  have hbit : (2 * v.toNat + c.toNat) % 2 ^ 8 % 2 = c.toNat := by omega
  rw [shiftResult_rl, shiftResult_rr, BitVec.toNat_ofNat, Nat.toNat_testBit]
  refine congrArg₂ Prod.mk (BitVec.eq_of_toNat_eq ?_) ?_
  · rw [BitVec.toNat_ofNat]
    omega
  · rw [Nat.testBit_zero, hbit]
    simp

/-- `RLC` is `RL` with bit 7 for the carry, and after it `RRC` is `RR`: bit 0 of the byte is the carry. -/
theorem shiftResult_rrc_rlc (v : Byte) (c d : Bool) :
    shiftResult .rrc (shiftResult .rlc v c).1 d = (v, v.toNat.testBit 7) := by
  have hrr : shiftResult .rr (shiftResult .rlc v c).1 (v.getLsbD 7) = (v, v.getLsbD 7) :=
    shiftResult_rr_rl v (v.getLsbD 7)
  have hbit : (shiftResult .rlc v c).1.getLsbD 0 = v.getLsbD 7 := congrArg Prod.snd hrr
  rw [← hbit] at hrr
  exact hrr.trans (congrArg (Prod.mk v) hbit)

/-- Settles O54: each row is its form's next state, with the rotate as a number. -/
theorem accumulatorRotates : Obligations.AccumulatorRotates := by
  intro s
  refine ⟨?_, ?_, ?_, ?_⟩
  · rw [exec_of_form (f := .rlca) rfl trivial, formNext, shiftResult_rlc, accRotateFlags]
  · rw [exec_of_form (f := .rrca) rfl trivial, formNext, shiftResult_rrc, accRotateFlags]
  · rw [exec_of_form (f := .rla) rfl trivial, formNext, shiftResult_rl, accRotateFlags]
  · rw [exec_of_form (f := .rra) rfl trivial, formNext, shiftResult_rr, accRotateFlags]

/-- Settles O42: the second rotate of a pair undoes the first. -/
theorem rotatePairsRestore : Obligations.RotatePairsRestore := by
  intro s
  refine ⟨⟨_, exec_of_form (f := .rla) rfl trivial, ?_⟩, ⟨_, exec_of_form (f := .rlca) rfl trivial, ?_⟩⟩
  · rw [exec_of_form (f := .rra) rfl trivial]
    simp only [formNext, accRotateFlags, shiftResult_rr_rl]
  · rw [exec_of_form (f := .rrca) rfl trivial]
    simp only [formNext, accRotateFlags, shiftResult_rrc_rlc]

/-! ### Decimal adjust and the flag operations (R204 to R208) -/

/-- The correction of `DAA` is 6 for the low digit and 96 for the high one; it is taken away after a subtraction (R204). -/
theorem adjust_eq_ofNat (a : Byte) (n low high : Bool) :
    (if n then a - ((if low then 0x06 else 0x00) ||| (if high then 0x60 else 0x00))
      else a + ((if low then 0x06 else 0x00) ||| (if high then 0x60 else 0x00))) =
    BitVec.ofNat 8 (if n then a.toNat + 256 - (6 * low.toNat + 96 * high.toNat)
      else a.toNat + (6 * low.toNat + 96 * high.toNat)) := by
  have hcorrection : ((if low then 0x06 else 0x00) ||| (if high then 0x60 else 0x00) : Byte) =
      BitVec.ofNat 8 (6 * low.toNat + 96 * high.toNat) := by
    revert low high
    decide
  have hlow := low.toNat_le
  have hhigh := high.toNat_le
  rw [hcorrection]
  cases n with
  | true => rw [if_pos rfl, if_pos rfl]; bv_omega
  | false => rw [if_neg Bool.false_ne_true, if_neg Bool.false_ne_true]; bv_omega

theorem daaResult_eq (a : Byte) (f : Flags) : daaResult a f =
    let low : Bool := f.h || (!f.n && decide (a.toNat % 16 > 9))
    let high : Bool := f.c || (!f.n && decide (a.toNat > 0x99))
    let u : Nat := 6 * low.toNat + 96 * high.toNat
    let r : Byte := BitVec.ofNat 8 (if f.n then a.toNat + 256 - u else a.toNat + u)
    (r, { z := decide (r = 0), n := f.n, h := false, c := high }) := by
  simp only [← adjust_eq_ofNat]
  rfl

/-- Settles O55: `DAA` with its correction as a number, `CPL` as the distance from 255, the rest by their rules. -/
theorem adjustAndFlagOperations : Obligations.AdjustAndFlagOperations := by
  intro s
  have hcpl : ~~~s.a = BitVec.ofNat 8 (255 - s.a.toNat) := by bv_omega
  refine ⟨?_, ?_, exec_of_form (f := .scf) rfl trivial, exec_of_form (f := .ccf) rfl trivial,
    exec_of_form (f := .nop) rfl trivial⟩
  · rw [exec_of_form (f := .daa) rfl trivial, formNext, daaResult_eq]
  · rw [exec_of_form (f := .cpl) rfl trivial, formNext, hcpl]

/-! ### Decimal adjust of packed decimal sums and differences (S7) -/

/-- After `ADD8` of packed decimal bytes `DAA` adds 6 where the low digits pass 9, and where the value passes 99 it adds 96
and drops 256. -/
theorem toNat_daaResult_add8 {a b : Byte} (ha : bcdValid a) (hb : bcdValid b) :
    (daaResult (add8 a b false).1 (add8 a b false).2).1.toNat + (if bcdValue a + bcdValue b > 99 then 160 else 0) =
        a.toNat + b.toNat + (if lowNibble a + lowNibble b > 9 then 6 else 0) ∧
      (daaResult (add8 a b false).1 (add8 a b false).2).2.c = decide (bcdValue a + bcdValue b > 99) := by
  obtain ⟨hal, hah⟩ := ha
  obtain ⟨hbl, hbh⟩ := hb
  have hlow : (decide (lowNibble a + lowNibble b > 15) || decide ((a.toNat + b.toNat) % 256 % 16 > 9)) =
      decide (lowNibble a + lowNibble b > 9) := by
    rw [← Bool.decide_or, decide_eq_decide, lowNibble, lowNibble]
    omega
  have hhigh : (decide (a.toNat + b.toNat > 255) || decide ((a.toNat + b.toNat) % 256 > 0x99)) =
      decide (bcdValue a + bcdValue b > 99) := by
    rw [← Bool.decide_or, decide_eq_decide, bcdValue, bcdValue]
    omega
  simp only [daaResult_eq, add8, Bool.toNat_false, Nat.add_zero, BitVec.toNat_ofNat, Bool.not_false, Bool.true_and,
    Nat.reducePow, hlow, hhigh, Bool.false_eq_true, if_false, toNat_decide_eq_ite, and_true]
  split_ifs with hl hh hh <;> simp only [bcdValue, lowNibble] at hl hh <;> omega

/-- After `SUB8` of packed decimal bytes `DAA` takes 6 where the low digits borrow, and where the value borrows it takes 96
from the 256 borrowed. -/
theorem toNat_daaResult_sub8 {a b : Byte} (ha : bcdValid a) (hb : bcdValid b) :
    (daaResult (sub8 a b false).1 (sub8 a b false).2).1.toNat + b.toNat + (if lowNibble a < lowNibble b then 6 else 0) =
        a.toNat + (if bcdValue a < bcdValue b then 160 else 0) ∧
      (daaResult (sub8 a b false).1 (sub8 a b false).2).2.c = decide (bcdValue a < bcdValue b) := by
  obtain ⟨hal, hah⟩ := ha
  obtain ⟨hbl, hbh⟩ := hb
  have hborrow : a.toNat < b.toNat ↔ bcdValue a < bcdValue b := by
    rw [bcdValue, bcdValue]
    omega
  have hflags : (sub8 a b false).2 =
      { z := decide ((sub8 a b false).1 = 0), n := true, h := decide (lowNibble a < lowNibble b),
        c := decide (bcdValue a < bcdValue b) } := congrArg (Flags.mk _ _ _) (decide_eq_decide.2 hborrow)
  simp only [daaResult_eq, hflags, sub8_fst, Bool.toNat_false, Nat.add_zero, BitVec.toNat_ofNat, Bool.not_true,
    Bool.false_and, Bool.or_false, if_true, Nat.reducePow, toNat_decide_eq_ite, and_true]
  split_ifs with hl hh hh <;> simp only [bcdValue, lowNibble] at hl hh <;> omega

theorem daaResult_add8 {a b : Byte} (ha : bcdValid a) (hb : bcdValid b) :
    bcdValid (daaResult (add8 a b false).1 (add8 a b false).2).1 ∧
      bcdValue (daaResult (add8 a b false).1 (add8 a b false).2).1 = (bcdValue a + bcdValue b) % 100 ∧
      (daaResult (add8 a b false).1 (add8 a b false).2).2.c = decide (bcdValue a + bcdValue b > 99) := by
  obtain ⟨hr, hc⟩ := toNat_daaResult_add8 ha hb
  refine and_assoc.1 ⟨?_, hc⟩
  split_ifs at hr <;> simp only [bcdValid, bcdValue, lowNibble] at * <;> omega

theorem daaResult_sub8 {a b : Byte} (ha : bcdValid a) (hb : bcdValid b) :
    bcdValid (daaResult (sub8 a b false).1 (sub8 a b false).2).1 ∧
      bcdValue (daaResult (sub8 a b false).1 (sub8 a b false).2).1 = (bcdValue a + 100 - bcdValue b) % 100 ∧
      (daaResult (sub8 a b false).1 (sub8 a b false).2).2.c = decide (bcdValue a < bcdValue b) := by
  obtain ⟨hr, hc⟩ := toNat_daaResult_sub8 ha hb
  refine and_assoc.1 ⟨?_, hc⟩
  split_ifs at hr <;> simp only [bcdValid, bcdValue, lowNibble] at * <;> omega

/-- Settles O41: both rows are their forms' next states, and `DAA` puts the digits right after `ADD8` and after `SUB8`. -/
theorem decimalAdjustCorrectsBcd : Obligations.DecimalAdjustCorrectsBcd := by
  intro i j src s hok ha hb
  refine ⟨fun hi hj => ?_, fun hi hj => ?_⟩
  · exact ⟨_, _, exec_of_form hi hok, exec_of_form (congrArg Instr.form hj) trivial, daaResult_add8 ha hb⟩
  · exact ⟨_, _, exec_of_form hi hok, exec_of_form (congrArg Instr.form hj) trivial, daaResult_sub8 ha hb⟩

end Sys2Proof.Machine
end

section
/-! The secondary space (46_cb_shift_bit.md R210 to R232): what each rotate or shift does to the byte and what each
single-bit operation does to its bits, said once; the rows are their forms' next states. -/

namespace Sys2Proof.Machine

/-! ### Rotates and shifts (R211 to R226) -/

theorem shiftResult_sla (v : Byte) (c : Bool) :
    shiftResult .sla v c = (BitVec.ofNat 8 (2 * v.toNat), v.toNat.testBit 7) := by
  have hdouble : v <<< 1 = BitVec.ofNat 8 (2 * v.toNat) := by bv_omega
  rw [shiftResult, hdouble]
  rfl

theorem shiftResult_srl (v : Byte) (c : Bool) :
    shiftResult .srl v c = (BitVec.ofNat 8 (v.toNat / 2), v.toNat.testBit 0) := by
  have hhalf : v >>> 1 = BitVec.ofNat 8 (v.toNat / 2) := by bv_omega
  rw [shiftResult, hhalf]
  rfl

/-- Bit 7 stays and the bits under it move down: the arithmetic shift. -/
theorem ushiftRight_one_or_sign (v : Byte) : v >>> 1 ||| v &&& 0x80 = v.sshiftRight 1 := by
  refine BitVec.eq_of_getLsbD_eq fun j hj => ?_
  rw [BitVec.getLsbD_or, BitVec.getLsbD_ushiftRight, BitVec.getLsbD_and, BitVec.getLsbD_sshiftRight]
  interval_cases j <;> simp [BitVec.msb_eq_getLsbD_last]

theorem shiftResult_sra (v : Byte) (c : Bool) : shiftResult .sra v c = (v.sshiftRight 1, v.toNat.testBit 0) := by
  rw [shiftResult, ushiftRight_one_or_sign]
  rfl

/-- The high nibble is shifted out, whatever it is. -/
theorem and_lowNibble_shiftLeft_four (v : Byte) : (v &&& 0x0F) <<< 4 = v <<< 4 := by
  refine BitVec.eq_of_getLsbD_eq fun j hj => ?_
  rw [BitVec.getLsbD_shiftLeft, BitVec.getLsbD_shiftLeft, BitVec.getLsbD_and]
  interval_cases j <;> simp

theorem shiftResult_swap (v : Byte) (c : Bool) : shiftResult .swap v c = (v.rotateLeft 4, false) := by
  rw [shiftResult, and_lowNibble_shiftLeft_four, BitVec.rotateLeft_def]

/-- The operand takes the result; Z is set from it, C is the bit moved out. -/
theorem exec_shift {i : Instr} {op : ShiftOp} {x : Loc8} {s : State} (hi : i.form = .shift op x) (hok : locOk x s)
    {r : Byte} {out : Bool} (hres : shiftResult op (locValue x s) s.flags.c = (r, out)) :
    exec i s =
      .next { locStored x s r with flags := { z := decide (r = 0), n := false, h := false, c := out } } := by
  rw [exec_of_form hi hok, formNext, hres, shiftFlags]

/-- Settles O56: each of the eight results and the bit it moves out. -/
theorem shiftsAndRotates : Obligations.ShiftsAndRotates := by
  intro i op x s hi hok
  cases op with
  | rlc => exact exec_shift hi hok (shiftResult_rlc ..)
  | rrc => exact exec_shift hi hok (shiftResult_rrc ..)
  | rl => exact exec_shift hi hok (shiftResult_rl ..)
  | rr => exact exec_shift hi hok (shiftResult_rr ..)
  | sla => exact exec_shift hi hok (shiftResult_sla ..)
  | sra => exact exec_shift hi hok (shiftResult_sra ..)
  | swap => exact exec_shift hi hok (shiftResult_swap ..)
  | srl => exact exec_shift hi hok (shiftResult_srl ..)

/-! ### Single bits (R227 to R232) -/

theorem getLsbD_one_shiftLeft {b k : Nat} (hk : k < 8) : (1#8 <<< b).getLsbD k = decide (k = b) :=
  getLsbD_bitAt hk true

theorem getLsbD_resetBit (b : Fin 8) (v : Byte) {k : Nat} (hk : k < 8) :
    (resetBit b v).getLsbD k = if k = b.val then false else v.getLsbD k := by
  rw [resetBit, BitVec.getLsbD_and, BitVec.getLsbD_not, getLsbD_one_shiftLeft hk]
  split_ifs with h <;> simp [h, hk]

theorem getLsbD_setBit (b : Fin 8) (v : Byte) {k : Nat} (hk : k < 8) :
    (setBit b v).getLsbD k = if k = b.val then true else v.getLsbD k := by
  rw [setBit, BitVec.getLsbD_or, getLsbD_one_shiftLeft hk]
  split_ifs with h <;> simp [h]

/-- Settles O57: `BIT` only reads the operand; `RES` and `SET` store it back with one bit changed. -/
theorem bitTestResetSet : Obligations.BitTestResetSet := by
  intro i b x s
  refine ⟨fun hi hread => exec_of_form hi hread, fun hi hok => ?_, fun hi hok => ?_⟩
  · exact ⟨resetBit b (locValue x s), exec_of_form hi hok, fun k hk => getLsbD_resetBit b _ hk⟩
  · exact ⟨setBit b (locValue x s), exec_of_form hi hok, fun k hk => getLsbD_setBit b _ hk⟩

end Sys2Proof.Machine
end

section
/-! Control transfers with their targets and the stack (47_control.md R235 to R246): a call or RST jumps after a push of PC,
a return jumps to the word popped, and a conditional form does that or nothing. -/

namespace Sys2Proof.Machine

/-- Settles O58: the five forms one by one, with the near target as a signed sum. -/
theorem jumps : Obligations.Jumps := by
  intro i cc w e s holds near
  have hnear : s.pc + sext16 e = near := add_sext16 s.pc e
  have hholds : condHolds cc s.flags = holds := rfl
  simp only [← hnear, ← hholds]
  exact ⟨fun hi => exec_of_form hi trivial, fun hi => exec_of_form hi trivial, fun hi => exec_of_form hi trivial,
    fun hi => exec_of_form hi trivial, fun hi => exec_of_form hi trivial⟩

/-! ### Calls and returns (R241 to R246) -/

theorem exec_call {i : Instr} {w : Word} {s : State} (hi : i.form = .call w) (hok : s.pushOk) :
    exec i s = .next ((s.pushed s.pc).jump w) := by
  rw [exec_of_form hi hok, State.pushed_eq]
  rfl

/-- The target of `RST` is its number times 8 (R246). -/
theorem exec_rst {i : Instr} {y : Fin 8} {s : State} (hi : i.form = .rst y) (hok : s.pushOk) :
    exec i s = .next ((s.pushed s.pc).jump (BitVec.ofNat 16 (8 * y.val))) := by
  rw [exec_of_form hi hok, State.pushed_eq, Nat.mul_comm]
  rfl

theorem exec_ret {i : Instr} {s : State} (hi : i.form = .ret) (hok : s.popOk) :
    exec i s = .next (s.popped.jump s.poppedWord) := by
  rw [exec_of_form hi hok, State.poppedWord_eq_mkWord]
  rfl

theorem exec_reti {i : Instr} {s : State} (hi : i.form = .reti) (hok : s.popOk) :
    exec i s = .next { s.popped.jump s.poppedWord with ime := true, imePending := false } := by
  rw [exec_of_form hi hok, State.poppedWord_eq_mkWord]
  rfl

theorem exec_callCC {i : Instr} {cc : Cond} {w : Word} {s : State} (hi : i.form = .callCC cc w)
    (hok : condHolds cc s.flags = true → s.pushOk) :
    exec i s = .next (if condHolds cc s.flags then (s.pushed s.pc).jump w else s) := by
  rw [exec_of_form hi hok, State.pushed_eq]
  rfl

theorem exec_retCC {i : Instr} {cc : Cond} {s : State} (hi : i.form = .retCC cc)
    (hok : condHolds cc s.flags = true → s.popOk) :
    exec i s = .next (if condHolds cc s.flags then s.popped.jump s.poppedWord else s) := by
  rw [exec_of_form hi hok, State.poppedWord_eq_mkWord]
  rfl

/-- Settles O59: form by form, the conditional ones by their condition; one that fails needs no stack access. -/
theorem callsAndReturns : Obligations.CallsAndReturns := by
  intro i cc w y s holds
  have hholds : condHolds cc s.flags = holds := rfl
  simp only [← hholds]
  refine ⟨exec_call, fun hi hcc hok => ?_, fun hi hcc => ?_, exec_rst, exec_ret, fun hi hcc hok => ?_,
    fun hi hcc => ?_, exec_reti⟩
  · rw [exec_callCC hi fun _ => hok, if_pos hcc]
    rfl
  · rw [exec_callCC hi (by simp [hcc]), hcc, if_neg Bool.false_ne_true]
  · rw [exec_retCC hi fun _ => hok, if_pos hcc]
    rfl
  · rw [exec_retCC hi (by simp [hcc]), hcc, if_neg Bool.false_ne_true]

/-! ### A call and the return from it -/

theorem State.poke_jump (s : State) (w a : Word) (v : Byte) : (s.jump w).poke a v = (s.poke a v).jump w := by
  rw [State.poke, State.poke, State.jump_cfg]
  split <;> rfl

/-- A push neither sees nor changes where control goes. -/
theorem State.pushed_jump (s : State) (w v : Word) : (s.jump w).pushed v = (s.pushed v).jump w := by
  simp only [State.pushed, ← State.poke_jump]
  rfl

/-- Settles O40: the call leaves the state of a push made after the jump, and the return's pop gets PC back. -/
theorem callReturnResumes : Obligations.CallReturnResumes := by
  intro i s target hi ⟨hw, _⟩ h1 h2
  obtain ⟨hok, hword, hpopped⟩ := State.pop_pushed_ram (s := s.jump target) s.pc hw h1 h2
  obtain ⟨⟨-, -, hlo⟩, -, -, hhi⟩ := And.intro h1 h2
  have hcall : exec i s = .next ((s.jump target).pushed s.pc) := by
    rw [State.pushed_jump]
    obtain hi | ⟨y, hi, rfl⟩ := hi
    · exact exec_call hi ⟨hlo, hhi⟩
    · exact exec_rst hi ⟨hlo, hhi⟩
  refine ⟨_, hcall, ?_, State.pushed_sp _ _, ?_⟩
  · rw [State.pushed_jump]
    rfl
  · rw [exec_ret rfl hok, hword, hpopped, State.pushed_jump]
    rfl

end Sys2Proof.Machine
end

section
/-! Power and interrupt enable, and the latency of EI (48_system.md R250 to R253; 40_dispatch.md R101). -/

namespace Sys2Proof.Machine

/-- Settles O60: each row sets its bits. -/
theorem powerAndInterruptEnable : Obligations.PowerAndInterruptEnable :=
  fun _ => ⟨exec_of_form (f := .halt) rfl trivial, exec_of_form (f := .stop) rfl trivial,
    exec_of_form (f := .di) rfl trivial, exec_of_form (f := .ei) rfl trivial⟩

/-- The step of EI at PC (R253): IME is what the start of the step left, and IME_PENDING is set. -/
theorem step_ei {s : State} {c : Cost} (hr : s.running = true) (h : s.fetchesAt s.pc [0xFB])
    (hc : costOf s.cfg { space := .primary, opcode := 0xFB } = some c) :
    step s = .next { s with taken := false, ime := s.ime || s.imePending, imePending := true, pc := s.pc + 1#16,
                            cycles := charge c false } :=
  stepRunsDecodedInstruction s [0xFB] .ei c hr h (decode_plain rfl ..) hc

/-- The step of NOP at PC (R208): the start of the step and the move of PC, and nothing else. -/
theorem step_nop {s : State} {c : Cost} (hr : s.running = true) (h : s.fetchesAt s.pc [0x00])
    (hc : costOf s.cfg { space := .primary, opcode := 0x00 } = some c) :
    step s = .next { s with taken := false, ime := s.ime || s.imePending, imePending := false, pc := s.pc + 1#16,
                            cycles := charge c false } :=
  stepRunsDecodedInstruction s [0x00] .nop c hr h (decode_plain rfl ..) hc

/-- Settles O12: EI leaves IME clear and sets IME_PENDING, which the start of the next step promotes (R101). -/
theorem enableInterruptLatency : Obligations.EnableInterruptLatency := by
  intro s c c' hr hime hpending ⟨hei, hnop⟩ hc hc'
  have hfirst := step_ei hr ⟨hei, trivial⟩ hc
  rw [hime, hpending] at hfirst
  exact ⟨_, _, hfirst, rfl, rfl, fun v => service_eq_refused.2 ⟨.inl rfl, rfl⟩,
    step_nop hr (State.fetchesAt_congr s _ rfl rfl _ _ hnop) hc', rfl, rfl⟩

end Sys2Proof.Machine
end

section
/-! The errors a step can end in (60_exceptions.md R260 to R263, R279). -/

namespace Sys2Proof.Machine

/-! ### A byte that cannot be fetched (R262) -/

theorem fetch8_fault {s : State} {info : Nat} (h : s.cfg.faultInfo s.pc .fetch = some info) :
    fetch8 s = .error (.memoryFault s.pc .fetch info) := by
  rw [fetch8, memRead_fault h]

/-- The address after a first byte and some more. -/
theorem add_one_add_ofNat (a : Word) (n : Nat) : a + 1#16 + BitVec.ofNat 16 n = a + BitVec.ofNat 16 (n + 1) := by
  rw [BitVec.add_assoc, Nat.add_comm, BitVec.ofNat_add]

/-- A fetch of more bytes than stand in plain RAM ends at the first that is refused. -/
theorem fetchBytes_fault {vs : List Byte} {n info : Nat} {s : State} (hn : vs.length < n) (h : s.fetchesAt s.pc vs)
    (hf : s.cfg.faultInfo (s.pc + BitVec.ofNat 16 vs.length) .fetch = some info) :
    fetchBytes n s = .error (.memoryFault (s.pc + BitVec.ofNat 16 vs.length) .fetch info) := by
  induction n generalizing s vs with
  | zero => exact absurd hn (Nat.not_lt_zero _)
  | succ n ih =>
    rw [fetchBytes_succ]
    cases vs with
    | nil =>
      simp only [List.length_nil, BitVec.add_zero] at hf ⊢
      exact bind_eq_error.2 (.inl (fetch8_fault hf))
    | cons v vs =>
      obtain ⟨hfirst, hrest⟩ := fetch8_fetchesAt h
      rw [List.length_cons, ← add_one_add_ofNat] at hf ⊢
      have hops := ih (s := { s with pc := s.pc + 1#16 }) (Nat.lt_of_succ_lt_succ hn) hrest hf
      exact bind_eq_error.2 (.inr ⟨_, hfirst, bind_eq_error.2 (.inl hops)⟩)

/-- A primary opcode but the escape byte does not decode where fewer bytes follow it than its row has operand bytes. -/
theorem length_of_decode_error {sl : StopLength} {op : Byte} {ops : List Byte} {e : DecodeError} (hop : op ≠ 0xCB)
    (h : decode sl (op :: ops) = .error e) : ops.length < Key.operandBytes sl { space := .primary, opcode := op } := by
  simp only [decode] at h
  simp only [Key.operandBytes]
  cases hr : primaryRow op with
  | plain i => rw [hr] at h; cases h
  | imm8 f =>
    rw [hr] at h
    cases ops with
    | nil => exact Nat.zero_lt_one
    | cons v vs => cases h
  | imm16 f =>
    rw [hr] at h
    match ops, h with
    | [], h => exact Nat.zero_lt_two
    | [v], h => exact Nat.one_lt_two
  | stop =>
    rw [hr] at h
    match sl, ops, h with
    | .two, [], h => exact Nat.zero_lt_one
  | escape => exact absurd (Laws.primaryRow_escape op hr) hop

theorem fetchKey_fault {s : State} {f : Fault} (h : fetch8 s = .error f) : fetchKey s = .error f := by
  rw [fetchKey_eq_bind, h]
  rfl

theorem fetchKey_fault_escape {s t : State} {f : Fault} (h : fetch8 s = .ok (0xCB, t)) (ht : fetch8 t = .error f) :
    fetchKey s = .error f := by
  rw [fetchKey_eq_bind, h]
  simp [Except.bind, ht]

theorem fetchInstr_fault_key {s : State} {f : Fault} (h : fetchKey s = .error f) : fetchInstr s = .error f := by
  simp only [fetchInstr, h]

/-- Where the byte after some that stand in plain RAM is refused and these are no whole instruction, the fetch ends at it:
at the opcode byte, at the byte after the escape, or at an operand byte. -/
theorem fetchInstr_fault {s : State} {bs : List Byte} {e : DecodeError} {info : Nat} (h : s.fetchesAt s.pc bs)
    (hd : decode s.cfg.stopLength bs = .error e)
    (hc : ∀ op ops, bs = op :: ops → op ≠ 0xCB → (costOf s.cfg { space := .primary, opcode := op }).isSome = true)
    (hf : s.cfg.faultInfo (s.pc + BitVec.ofNat 16 bs.length) .fetch = some info) :
    fetchInstr s = .error (.memoryFault (s.pc + BitVec.ofNat 16 bs.length) .fetch info) := by
  cases bs with
  | nil =>
    simp only [List.length_nil, BitVec.add_zero] at hf ⊢
    exact fetchInstr_fault_key (fetchKey_fault (fetch8_fault hf))
  | cons op ops =>
    obtain ⟨hfirst, hrest⟩ := fetch8_fetchesAt h
    by_cases hop : op = 0xCB
    · subst hop
      cases ops with
      | nil => exact fetchInstr_fault_key (fetchKey_fault_escape hfirst (fetch8_fault hf))
      | cons v vs =>
        rw [decode_secondary] at hd
        cases hd
    · obtain ⟨c, hc⟩ := Option.isSome_iff_exists.1 (hc op ops rfl hop)
      have hkey : fetchKey s = .ok ({ space := .primary, opcode := op }, { s with pc := s.pc + 1#16 }) :=
        fetchKey_fetchesAt (fun _ => hop) ⟨h.1, trivial⟩
      rw [List.length_cons, ← add_one_add_ofNat] at hf ⊢
      have hops := fetchBytes_fault (s := { s with pc := s.pc + 1#16 }) (length_of_decode_error hop hd) hrest hf
      simp only [fetchInstr, hkey, hc, hops]

/-- Settles O13: the start of the step changes nothing the fetch depends on. -/
theorem fetchFaultStops : Obligations.FetchFaultStops := by
  intro s bs e info hr h hd hc hf
  have hfetch := fetchInstr_fault (fetchesAt_startStep h) (by rwa [startStep_cfg]) (by rwa [startStep_cfg])
    (by rwa [startStep_cfg, startStep_pc])
  rw [step_running hr, hfetch, orFault_error, startStep_pc]

/-! ### Every end of a step (R260 to R263) -/

/-- A fault found among accesses is that of a refused access (R262). -/
theorem firstFault_eq_some {cfg : Config} {l : List (Access × Word)} {f : Fault} (h : cfg.firstFault l = some f) :
    ∃ a k info, f = .memoryFault a k info ∧ cfg.faultInfo a k = some info := by
  obtain ⟨⟨k, a⟩, -, hx⟩ := List.exists_of_findSome?_eq_some h
  obtain ⟨info, hinfo, rfl⟩ := Option.map_eq_some_iff.1 hx
  exact ⟨a, k, info, rfl, hinfo⟩

/-- The form of a row that is no instruction (R84). -/
theorem form_illegal_of_wf_false {i : Instr} (h : i.wf = false) : ∃ op, i.form = .illegal op := by
  unfold Instr.wf at h
  cases hf : i.form with
  | illegal op => exact ⟨op, rfl⟩
  | _ => rw [hf] at h; cases h

/-- A row that is no instruction is one byte long, so its byte's address is one below PC once it is fetched (R279). -/
theorem pc_of_fetchBytes_illegal {s t : State} {bs : List Byte} {i : Instr} {op : Byte} {sl : StopLength}
    (h : fetchBytes bs.length s = .ok (bs, t)) (hd : decode sl bs = .ok (i, [])) (hi : i.form = .illegal op) :
    t.pc - 1#16 = s.pc := by
  have hlen : bs.length = 1 := by rw [length_of_decode hd, encode_illegal hi]; rfl
  rw [(fetchBytes_only h).2.1, hlen, BitVec.add_sub_cancel]

/-- Every end of an instruction: a next state, MalformedOpcode where the row is none, or MemoryFault at a refused access. -/
theorem exec_cases (i : Instr) (s : State) :
    (∃ t, exec i s = .next t) ∨
    (∃ op, i.form = .illegal op ∧ exec i s = .fault (.malformedOpcode .primary op (s.pc - 1#16))) ∨
    ∃ a k info, exec i s = .fault (.memoryFault a k info) ∧ s.cfg.faultInfo a k = some info := by
  cases hi : i.wf with
  | false =>
    obtain ⟨op, hform⟩ := form_illegal_of_wf_false hi
    exact .inr (.inl ⟨op, hform, exec_illegal hform s⟩)
  | true =>
    have hdecided := accessesDecideOutcome i s hi
    split at hdecided
    next => exact .inl hdecided
    next hf =>
      obtain ⟨a, k, info, rfl, hinfo⟩ := firstFault_eq_some hf
      exact .inr (.inr ⟨a, k, info, hdecided, hinfo⟩)

/-- Settles O17: a fetch ends at a refused byte or at a key without a record, or answers an instruction, whose end is that of
the step. -/
theorem stepStopsOnlyAsNamed : Obligations.StepStopsOnlyAsNamed := by
  intro s
  cases hr : s.running with
  | false => exact .inl ⟨_, step_idle hr⟩
  | true =>
    rw [step_running hr]
    obtain ⟨f, ⟨a, n, ha, rfl⟩, hf⟩ | ⟨k, t, -, hc, hf⟩ | ⟨bs, f, hbs, hd, hf⟩ := fetchInstr_cases (startStep s)
    · rw [hf]
      exact .inr (.inr ⟨a, .fetch, n, rfl, startStep_cfg s ▸ ha⟩)
    · rw [hf, startStep_pc]
      exact .inr (.inl ⟨k.space, k.opcode, rfl, .inr (startStep_cfg s ▸ hc)⟩)
    · have hcfg : f.state.cfg = s.cfg := (fetchBytes_only hbs).1.cfg_eq.trans (startStep_cfg s)
      rw [hf, orFault_ok]
      obtain ⟨t, ht⟩ | ⟨op, hform, hx⟩ | ⟨a, k, info, hx, hinfo⟩ := exec_cases f.instr f.state
      · rw [ht]
        exact .inl ⟨_, rfl⟩
      · rw [hx, pc_of_fetchBytes_illegal hbs hd hform, startStep_pc]
        exact .inr (.inl ⟨.primary, op, rfl, .inl ⟨rfl, mem_illegalOpcodes_of_form hform⟩⟩)
      · rw [hx]
        exact .inr (.inr ⟨a, k, info, rfl, hcfg ▸ hinfo⟩)

end Sys2Proof.Machine
end

section
/-! The host's operations: wake, and interrupt service with the return that ends its handler (60_exceptions.md R265 to R270;
47_control.md R245). -/

namespace Sys2Proof.Machine

theorem running_iff {s : State} : s.running = true ↔ s.halted = false ∧ s.stopped = false := by
  simp [State.running]

/-- Settles O30: the bits are cleared, and a running core has them clear. -/
theorem wakeOperation : Obligations.WakeOperation := by
  refine ⟨fun _ => rfl, fun s hr => ?_⟩
  obtain ⟨hhalted, hstopped⟩ := running_iff.1 hr
  cases s
  cases hhalted
  cases hstopped
  rfl

/-- What a service does beside its push (R266): the core is out of HALT, interrupts are disabled, PC is the vector, and
`INTERRUPT_CYCLES` is returned. -/
def State.vectored (s : State) (vector : Word) : State :=
  { s with halted := false, ime := false, imePending := false, pc := vector, cycles := s.cfg.interruptCycles }

theorem State.poke_vectored (s : State) (vector a : Word) (v : Byte) :
    (s.vectored vector).poke a v = (s.poke a v).vectored vector := by
  cases h : s.cfg.isDevice a <;> simp [State.poke, State.vectored, h]

/-- The push neither sees nor changes what else a service does. -/
theorem State.pushed_vectored (s : State) (vector v : Word) :
    (s.vectored vector).pushed v = (s.pushed v).vectored vector := by
  simp only [State.pushed, ← State.poke_vectored]
  rfl

/-- A service that is neither refused nor ended by its push (R266). -/
theorem service_eq_pushed {s : State} (vector : Word) (hi : s.ime = true) (hs : s.stopped = false) (hok : s.pushOk) :
    service vector s = .next ((s.vectored vector).pushed s.pc) := by
  refine service_eq_next.2 ⟨hi, hs, hok.1, hok.2, ?_⟩
  rw [State.pushed_vectored, State.pushed_eq]
  cases h : s.cfg.isDevice (s.sp - 2#16) <;> cases h2 : s.cfg.isDevice (s.sp - 2#16 + 1#16) <;>
    simp [State.poke, State.vectored, h, h2]

/-- A service that is not refused ends at the first refused byte of its push (R262). -/
theorem service_fault {s : State} (vector : Word) {f : Fault} (hi : s.ime = true) (hs : s.stopped = false)
    (hf : s.cfg.firstFault [(.write, s.sp - 2#16), (.write, s.sp - 2#16 + 1#16)] = some f) :
    service vector s = .fault f := by
  rw [service, if_neg (by simp [hi, hs]), push16_eq_guarded, guarded, hf]
  rfl

/-- Settles O31: refused, accepted, or ended by the push. -/
theorem interruptService : Obligations.InterruptService := by
  refine ⟨fun s vector => ⟨fun h => ?_, fun hi hs hok => ?_, fun f => service_fault vector⟩, rfl⟩
  · have hrefused : service vector s = .refused .interruptNotServiced := service_eq_refused.2 ⟨h, rfl⟩
    exact ⟨hrefused, by simp only [actAll, act, hrefused]⟩
  · rw [service_eq_pushed vector hi hs hok, State.pushed_vectored]
    simp [State.vectored]

/-- Settles O32: the service's push is made after all else it does, and RETI's pop undoes it but for memory. -/
theorem serviceThenRetiResumes : Obligations.ServiceThenRetiResumes := by
  intro s vector ⟨hw, _⟩ hi hs h1 h2
  obtain ⟨hok, hword, hpopped⟩ := State.pop_pushed_ram (s := s.vectored vector) s.pc hw h1 h2
  obtain ⟨⟨-, -, hlo⟩, -, -, hhi⟩ := And.intro h1 h2
  refine ⟨_, service_eq_pushed vector hi hs ⟨hlo, hhi⟩, ?_, ?_, ?_⟩
  · rw [State.pushed_vectored]
    rfl
  · rw [State.pushed_vectored]
    rfl
  · rw [exec_reti rfl hok, hword, hpopped, State.pushed_vectored]
    simp [State.vectored, State.jump, hi]

end Sys2Proof.Machine
end

section
/-! The invariant: memory stays canonical, and the core is never both halted and stopped, at reset, over every step and
over every sequence of the host's acts (48_system.md R254; 20_memory.md R53; 60_exceptions.md R264; 70_reset_and_hazards.md
R280, R281). -/

namespace Sys2Proof.Machine

/-- A new processor state is neither halted nor stopped, with either profile (R38, R39). -/
theorem State.create_inv (p : ResetProfile) (cfg : Config) {mem : Memory} (io : List IoEvent) (hw : mem.wf = true) :
    (State.create p cfg mem io).Inv := by
  cases p with
  | zero | postBoot => exact ⟨hw, rfl⟩

/-- Settles O25: the empty memory is canonical, and a new processor state runs. -/
theorem invariantAtReset : Obligations.InvariantAtReset :=
  ⟨State.create_inv .zero Config.standard [] rfl, fun p cfg _ io hw => State.create_inv p cfg io hw⟩

/-- An instruction of a running core keeps memory canonical, and as it is not both HALT and STOP it sets one of the two
bits at most. -/
theorem exec_inv {i : Instr} {s t : State} (hr : s.running = true) (hw : s.mem.wf = true) (h : exec i s = .next t) :
    t.Inv := by
  obtain ⟨hhalted, hstopped⟩ := running_iff.1 hr
  obtain ⟨hh, hs, -⟩ := controlBitsChangeOnlyWhereNamed i s t h
  refine ⟨(memoryChangesOnlyWhereStored i s t hw h).1, ?_⟩
  rw [hh, hs, hhalted, hstopped, Bool.false_or, Bool.false_or, Bool.and_eq_false_iff]
  by_cases hf : i.form = .halt
  · exact .inr (by simp [hf])
  · exact .inl (by simp [hf])

/-- A fetch changes neither memory nor the two bits. -/
theorem fetchInstr_only {s : State} {f : Fetched} (h : fetchInstr s = .ok f) : OnlyFetched s f.state := by
  obtain ⟨bs, hbs, -⟩ := fetchInstr_eq_ok h
  exact (fetchBytes_only hbs).1

theorem OnlyFetched.mem_eq {s t : State} (h : OnlyFetched s t) : t.mem = s.mem := by
  rw [h]

theorem OnlyFetched.running_eq {s t : State} (h : OnlyFetched s t) : t.running = s.running := by
  rw [h]
  rfl

/-- Settles O26: an idle step touches neither memory nor the two bits; another step is a fetch, which touches neither, and
an instruction. -/
theorem stepKeepsInvariant : Obligations.StepKeepsInvariant := by
  intro s t ⟨hw, hb⟩ h
  obtain ⟨-, rfl⟩ | ⟨hr, f, u, hf, hu, rfl⟩ := step_cases h
  · exact ⟨by simpa [idle] using hw, by simpa [idle] using hb⟩
  · have honly := fetchInstr_only hf
    have hrun : f.state.running = true := by rw [honly.running_eq, startStep_running, hr]
    have hmem : f.state.mem.wf = true := by rw [honly.mem_eq, startStep_mem, hw]
    have hinv : u.Inv := exec_inv hrun hmem hu
    exact hinv

/-- No step changes a parameter (R10). -/
theorem step_cfg {s t : State} (h : step s = .next t) : t.cfg = s.cfg := by
  obtain ⟨-, rfl⟩ | ⟨-, f, u, hf, hu, rfl⟩ := step_cases h
  · exact startStep_cfg s
  · obtain ⟨-, rfl⟩ := exec_eq_next.1 hu
    exact (formNext_cfg _ _).trans ((fetchInstr_only hf).cfg_eq.trans (startStep_cfg s))

theorem State.pushed_wf {s : State} (hw : s.mem.wf = true) (v : Word) : (s.pushed v).mem.wf = true :=
  State.poke_wf (State.poke_wf (s := { s with sp := s.sp - 2#16 }) hw _ _) _ _

/-- An accepted service clears HALTED, pushes on memory and leaves the parameters alone (R266). -/
theorem service_inv {s t : State} {vector : Word} (hw : s.mem.wf = true) (h : service vector s = .next t) :
    t.Inv ∧ t.cfg = s.cfg := by
  obtain ⟨hi, hs, h1, h2, -⟩ := service_eq_next.1 h
  have heq := service_eq_pushed vector hi hs ⟨h1, h2⟩
  rw [State.pushed_vectored, h] at heq
  cases heq
  exact ⟨⟨State.pushed_wf hw s.pc, rfl⟩, s.pushed_cfg s.pc⟩

/-- One act of the host keeps the invariant and the parameters. -/
theorem act_inv {x : HostAct} {s t : State} (hs : s.Inv) (h : act x s = .next t) : t.Inv ∧ t.cfg = s.cfg := by
  obtain ⟨hw, hb⟩ := hs
  cases x with
  | step => exact ⟨stepKeepsInvariant s t ⟨hw, hb⟩ h, step_cfg h⟩
  | wake => cases h; exact ⟨⟨hw, rfl⟩, rfl⟩
  | service vector => exact service_inv hw h
  | store addr value => cases h; exact ⟨⟨Memory.write_wf hw addr value, hb⟩, rfl⟩
  | create profile =>
    cases h
    exact ⟨State.create_inv profile s.cfg s.io hw, by cases profile <;> rfl⟩

/-- Settles O27, act after act; a refused service leaves the state to the acts after it (R266). -/
theorem hostRunsKeepInvariant : Obligations.HostRunsKeepInvariant := by
  intro xs
  induction xs with
  | nil =>
    intro s t hs h
    cases h
    exact ⟨hs, rfl⟩
  | cons x xs ih =>
    intro s t hs h
    rw [actAll] at h
    cases hx : act x s with
    | next u =>
      rw [hx] at h
      obtain ⟨hu, hcfg⟩ := act_inv hs hx
      obtain ⟨ht, hcfg'⟩ := ih u t hu h
      exact ⟨ht, hcfg'.trans hcfg⟩
    | fault f =>
      rw [hx] at h
      cases h
    | refused r =>
      rw [hx] at h
      exact ih s t hs h

end Sys2Proof.Machine
end

section
/-! The default costs (70_reset_and_hazards.md R288 to R290; 40_dispatch.md R109). -/

namespace Sys2Proof.Machine

/-- The cost of a row, by way of the bytes and the key it has. -/
theorem defaultCost_of_encode {sl : StopLength} {i : Instr} {op : Byte} {ops : List Byte} {sp : Space} {sel : Byte}
    (henc : encode sl i = op :: ops) (hk : keyOfBytes (op :: ops) = { space := sp, opcode := sel })
    (hc : defaultCost { space := sp, opcode := sel } = i.form.defaultCost) :
    defaultCost (keyOfBytes (encode sl i)) = i.form.defaultCost := by
  rw [henc, hk, hc]

/-- The default record of each row is that of its form, one constructor after another. -/
theorem defaultCost_encode (sl : StopLength) (i : Instr) :
    defaultCost (keyOfBytes (encode sl i)) = i.form.defaultCost := by
  cases i with
  | stop => cases sl <;> rfl
  | _ => exact defaultCost_of_encode rfl rfl rfl

/-- A form that is an instruction has a cost, and one for the transfer not made exactly where it is conditional. -/
theorem Form.defaultCost_eq_some {f : Form} (h : f.wf = true) :
    ∃ c, f.defaultCost = some c ∧ c.notTaken.isSome = f.isConditional := by
  cases f with
  | illegal op => cases h
  | alu op x | inc8 x | dec8 x | shift op x | bit b x | res b x | set b x => cases x <;> exact ⟨_, rfl, rfl⟩
  | _ => exact ⟨_, rfl, rfl⟩

theorem Cost.scale_tState : Cost.scale .tState = id := by
  funext c
  obtain ⟨base, notTaken⟩ := c
  cases notTaken <;> rfl

/-- Without changes the table is the default in the machine's unit. -/
theorem costOf_inUnit (u : CycleUnit) (k : Key) : costOf (Config.inUnit u) k = (defaultCost k).map (Cost.scale u) := rfl

/-- Settles O9: the default table row by row and form by form; T-states are the table's own unit. -/
theorem defaultCosts : Obligations.DefaultCosts := by
  refine ⟨defaultCost_encode, fun i => Form.defaultCost_eq_some, by decide, fun k => ?_,
    costOf_inUnit .machineCycle, rfl, rfl, rfl, rfl⟩
  rw [costOf_inUnit, Cost.scale_tState, Option.map_id_fun, id]

end Sys2Proof.Machine
end

section
/-! No effect of a step depends on a cost (70_reset_and_hazards.md R287): with other cost parameters every operation, the
fetch and every instruction do the same. -/

namespace Sys2Proof.Machine

/-- The parameters that are costs (R10, R108, R110, R266). -/
structure Costs where
  unit    : CycleUnit
  changes : List CostRecord
  idle    : Nat
  service : Nat

/-- The state with other costs, and another value last returned. -/
def State.withCosts (s : State) (p : Costs) (n : Nat) : State :=
  { s with cfg := { s.cfg with cycleUnit := p.unit, costChanges := p.changes, idleCycles := p.idle,
                               interruptCycles := p.service },
           cycles := n }

/-! ### The operations commute with a change of costs -/

section
variable (s : State) (p : Costs) (n : Nat)

@[simp] theorem State.withCosts_a : (s.withCosts p n).a = s.a := rfl
@[simp] theorem State.withCosts_c : (s.withCosts p n).c = s.c := rfl
@[simp] theorem State.withCosts_flags : (s.withCosts p n).flags = s.flags := rfl
@[simp] theorem State.withCosts_sp : (s.withCosts p n).sp = s.sp := rfl
@[simp] theorem State.withCosts_pc : (s.withCosts p n).pc = s.pc := rfl
@[simp] theorem State.hl_withCosts : (s.withCosts p n).hl = s.hl := rfl
@[simp] theorem State.peek_withCosts (x : Word) : (s.withCosts p n).peek x = s.peek x := rfl
@[simp] theorem State.stopLength_withCosts : (s.withCosts p n).cfg.stopLength = s.cfg.stopLength := rfl
@[simp] theorem State.running_withCosts : (s.withCosts p n).running = s.running := rfl

@[simp] theorem State.getReg_withCosts (r : Reg8) : (s.withCosts p n).getReg r = s.getReg r := by cases r <;> rfl
@[simp] theorem State.getPair_withCosts (q : Pair) : (s.withCosts p n).getPair q = s.getPair q := by cases q <;> rfl
@[simp] theorem State.ptrAddr_withCosts (q : Ptr) : (s.withCosts p n).ptrAddr q = s.ptrAddr q := by cases q <;> rfl
@[simp] theorem srcValue_withCosts (x : Src8) : srcValue x (s.withCosts p n) = srcValue x s := by
  cases x <;> simp [srcValue]
@[simp] theorem locValue_withCosts (x : Loc8) : locValue x (s.withCosts p n) = locValue x s := by
  cases x <;> simp [locValue]

@[simp] theorem State.setReg_withCosts (r : Reg8) (v : Byte) :
    (s.withCosts p n).setReg r v = (s.setReg r v).withCosts p n := by cases r <;> rfl
@[simp] theorem State.setPair_withCosts (q : Pair) (w : Word) :
    (s.withCosts p n).setPair q w = (s.setPair q w).withCosts p n := by cases q <;> rfl
@[simp] theorem State.setStackPair_withCosts (q : StackPair) (w : Word) :
    (s.withCosts p n).setStackPair q w = (s.setStackPair q w).withCosts p n := by cases q <;> rfl
@[simp] theorem State.ptrAdjust_withCosts (q : Ptr) :
    (s.withCosts p n).ptrAdjust q = (s.ptrAdjust q).withCosts p n := by cases q <;> rfl
@[simp] theorem State.setFlags_withCosts (fl : Flags) :
    (s.withCosts p n).setFlags fl = (s.setFlags fl).withCosts p n := rfl
@[simp] theorem State.jump_withCosts (w : Word) : (s.withCosts p n).jump w = (s.jump w).withCosts p n := rfl

@[simp] theorem State.afterRead_withCosts (x : Word) :
    (s.withCosts p n).afterRead x = (s.afterRead x).withCosts p n := by
  have hd : (s.withCosts p n).cfg.isDevice x = s.cfg.isDevice x := rfl
  unfold State.afterRead
  rw [hd]
  split <;> rfl

@[simp] theorem State.poke_withCosts (x : Word) (v : Byte) :
    (s.withCosts p n).poke x v = (s.poke x v).withCosts p n := by
  have hd : (s.withCosts p n).cfg.isDevice x = s.cfg.isDevice x := rfl
  unfold State.poke
  rw [hd]
  split <;> rfl

@[simp] theorem State.popped_withCosts : (s.withCosts p n).popped = s.popped.withCosts p n := by
  simp only [State.popped, State.afterRead_withCosts, State.withCosts_sp]
  rfl

@[simp] theorem srcAfter_withCosts (x : Src8) : srcAfter x (s.withCosts p n) = (srcAfter x s).withCosts p n := by
  cases x <;> simp [srcAfter]
@[simp] theorem locAfter_withCosts (x : Loc8) : locAfter x (s.withCosts p n) = (locAfter x s).withCosts p n := by
  cases x <;> simp [locAfter]
@[simp] theorem locStored_withCosts (x : Loc8) (v : Byte) :
    locStored x (s.withCosts p n) v = (locStored x s v).withCosts p n := by
  cases x <;> simp [locStored]

/-- A push commutes with a change of costs. -/
theorem State.push_withCosts (w x y : Word) (lo hi : Byte) :
    (State.poke { s.withCosts p n with sp := w } x lo).poke y hi =
      ((State.poke { s with sp := w } x lo).poke y hi).withCosts p n := by
  rw [← State.poke_withCosts, ← State.poke_withCosts]
  rfl

theorem ite_withCosts {s t u : State} {p : Costs} {n : Nat} (c : Bool) (h : t = u.withCosts p n) :
    (if c then t else s.withCosts p n) = (if c then u else s).withCosts p n := by
  cases c <;> simp [h]

end

/-! ### An instruction with other costs -/

/-- An instruction makes the same accesses, and the same of them are refused. -/
theorem firstFault_withCosts (f : Form) (s : State) (p : Costs) (n : Nat) :
    (s.withCosts p n).cfg.firstFault (f.accesses (s.withCosts p n)) = s.cfg.firstFault (f.accesses s) := rfl

/-- Where it completes, it does the same. -/
theorem formNext_withCosts (f : Form) (s : State) (p : Costs) (n : Nat) :
    formNext f (s.withCosts p n) = (formNext f s).withCosts p n := by
  cases f with
  | jpCC cc w | jrCC cc e => exact ite_withCosts _ rfl
  | callCC cc w => exact ite_withCosts _ (congrArg (State.jump · w) (s.push_withCosts p n _ _ _ _ _))
  | retCC cc => exact ite_withCosts _ (by simp)
  | push q => exact s.push_withCosts p n _ _ _ _ _
  | call w => exact congrArg (State.jump · w) (s.push_withCosts p n _ _ _ _ _)
  | rst y => exact congrArg (State.jump · (rstTarget y)) (s.push_withCosts p n _ _ _ _ _)
  | reti =>
    have hret : formNext .ret (s.withCosts p n) = (formNext .ret s).withCosts p n := by simp [formNext]
    exact congrArg (fun t : State => { t with ime := true, imePending := false }) hret
  | ldAPtr q => simp [formNext_ldAPtr]
  | ldAAbs w => exact congrArg (State.setReg · .a (s.peek w)) (s.afterRead_withCosts p n w)
  | ldhAPage v =>
    exact congrArg (State.setReg · .a (s.peek (highPage v))) (s.afterRead_withCosts p n (highPage v))
  | ldhAC =>
    exact congrArg (State.setReg · .a (s.peek (highPage s.c))) (s.afterRead_withCosts p n (highPage s.c))
  | alu op x => simp [formNext_alu]
  | bit b x => simp [formNext_bit]
  | inc8 x | dec8 x | shift op x =>
    simp only [formNext, locStored_withCosts, locValue_withCosts, State.withCosts_flags]
    rfl
  | ldSPHL | ldHLSPOff e | addHL q | addSPOff e | rlca | rrca | rla | rra | daa | cpl | scf | ccf | halt | stop | di
  | ei => exact rfl
  | _ => simp [formNext]

/-- Two outcomes that differ in the costs and in the value returned only. -/
def SameUpToCosts (p : Costs) (o o' : Out) : Prop :=
  match o with
  | .next t => ∃ n, o' = .next (t.withCosts p n)
  | .fault f => o' = .fault f
  | .refused r => o' = .refused r

theorem exec_withCosts (i : Instr) (s : State) (p : Costs) (n : Nat) :
    SameUpToCosts p (exec i s) (exec i (s.withCosts p n)) := by
  cases hi : i.wf with
  | false =>
    obtain ⟨op, hform⟩ := form_illegal_of_wf_false hi
    rw [exec_illegal hform, exec_illegal hform]
    rfl
  | true =>
    have h := accessesDecideOutcome i s hi
    have h' := accessesDecideOutcome i (s.withCosts p n) hi
    rw [firstFault_withCosts] at h'
    split at h
    next hf =>
      rw [hf] at h'
      obtain ⟨t, ht⟩ := h
      obtain ⟨t', ht'⟩ := h'
      obtain ⟨-, rfl⟩ := exec_eq_next.1 ht
      obtain ⟨-, rfl⟩ := exec_eq_next.1 ht'
      rw [ht, ht', formNext_withCosts]
      exact ⟨n, rfl⟩
    next f hf =>
      rw [hf] at h'
      rw [h, h']
      rfl

/-- The end of an instruction's step returns a cost and changes nothing else (R108). -/
theorem finish_sameUpToCosts {p : Costs} {o o' : Out} (c c' : Cost) (h : SameUpToCosts p o o') :
    SameUpToCosts p (finish c o) (finish c' o') := by
  cases o with
  | next t =>
    obtain ⟨n, rfl⟩ := h
    exact ⟨_, rfl⟩
  | fault f | refused r =>
    cases h
    rfl

/-! ### The fetch with other costs -/

section
variable (s : State) (p : Costs) (n : Nat)

theorem startStep_withCosts : startStep (s.withCosts p n) = (startStep s).withCosts p n := by
  rw [startStep_eq, startStep_eq]
  rfl

theorem fetch8_withCosts : fetch8 (s.withCosts p n) = (fetch8 s).map fun r => (r.1, r.2.withCosts p n) := by
  cases h : s.cfg.faultInfo s.pc .fetch with
  | some info => rw [fetch8_fault h, fetch8_fault (by exact h)]; rfl
  | none => rw [fetch8_eq_ok.2 ⟨h, rfl⟩, fetch8_eq_ok.2 ⟨by exact h, rfl⟩, State.afterRead_withCosts]; rfl

theorem fetchBytes_withCosts (k : Nat) :
    fetchBytes k (s.withCosts p n) = (fetchBytes k s).map fun r => (r.1, r.2.withCosts p n) := by
  induction k generalizing s with
  | zero => rfl
  | succ k ih =>
    rw [fetchBytes_succ, fetchBytes_succ, fetch8_withCosts]
    cases fetch8 s with
    | error f => rfl
    | ok r =>
      simp only [Except.map, Except.bind, ih]
      cases fetchBytes k r.2 <;> rfl

theorem fetchKey_withCosts : fetchKey (s.withCosts p n) = (fetchKey s).map fun r => (r.1, r.2.withCosts p n) := by
  rw [fetchKey_eq_bind, fetchKey_eq_bind, fetch8_withCosts]
  cases fetch8 s with
  | error f => rfl
  | ok r =>
    simp only [Except.map, Except.bind, fetch8_withCosts]
    split
    · cases fetch8 r.2 <;> rfl
    · rfl

end

/-- A key with a record in both tables: the operand bytes are fetched alike, and the same instruction is decoded. -/
theorem fetchInstr_withCosts {s t : State} {p : Costs} {n : Nat} {k : Key} {c c' : Cost}
    (hkey : fetchKey s = .ok (k, t)) (hc : costOf s.cfg k = some c) (hc' : costOf (s.withCosts p n).cfg k = some c') :
    (∃ f, fetchInstr s = .error f ∧ fetchInstr (s.withCosts p n) = .error f) ∨
      ∃ i u, fetchInstr s = .ok ⟨i, c, u⟩ ∧ fetchInstr (s.withCosts p n) = .ok ⟨i, c', u.withCosts p n⟩ := by
  simp only [fetchInstr, fetchKey_withCosts, hkey, hc, Except.map, hc', State.stopLength_withCosts, fetchBytes_withCosts]
  cases hops : fetchBytes (k.operandBytes s.cfg.stopLength) t with
  | error f => exact .inl ⟨f, rfl, rfl⟩
  | ok q =>
    obtain ⟨i, hi⟩ := decode_fetched (fetchKey_only hkey).2.2 (fetchBytes_only hops).2.2
    simp only [hi]
    exact .inr ⟨i, q.2, rfl, rfl⟩

/-! ### The step with other costs -/

/-- An illegal opcode ends the step whether or not the table has a record for it (R103, R106). -/
theorem step_illegal_key {s t : State} {op : Byte} (hr : s.running = true)
    (hkey : fetchKey (startStep s) = .ok ({ space := .primary, opcode := op }, t)) (hop : op ∈ illegalOpcodes) :
    step s = .fault (.malformedOpcode .primary op s.pc) := by
  obtain ⟨i, hrow, hform⟩ := primaryRow_illegal hop
  have hpc : t.pc - 1#16 = s.pc := by
    rw [(fetchKey_only hkey).2.1, startStep_pc]
    exact BitVec.add_sub_cancel s.pc 1#16
  rw [step_running hr]
  cases hc : costOf s.cfg { space := .primary, opcode := op } with
  | none => simp only [fetchInstr, hkey, startStep_cfg, hc, orFault_error, startStep_pc]
  | some c =>
    have hfetch : fetchInstr (startStep s) = .ok ⟨i, c, t⟩ := by
      simp [fetchInstr, hkey, hc, Key.operandBytes, hrow, Row.operandBytes, fetchBytes, Key.bytes, decode_plain hrow]
    rw [hfetch, orFault_ok, exec_illegal hform, hpc]
    rfl

/-- Where both tables have a record for the key fetched, the step is the same up to costs. -/
theorem step_withCosts_of_costOf {s t : State} {p : Costs} {n : Nat} {k : Key} {c c' : Cost} (hr : s.running = true)
    (hkey : fetchKey (startStep s) = .ok (k, t)) (hc : costOf s.cfg k = some c)
    (hc' : costOf (s.withCosts p n).cfg k = some c') :
    SameUpToCosts p (step s) (step (s.withCosts p n)) := by
  rw [← startStep_cfg] at hc hc'
  rw [startStep_withCosts] at hc'
  rw [step_running hr, step_running ((s.running_withCosts p n).trans hr), startStep_withCosts]
  obtain ⟨f, hf, hf'⟩ | ⟨i, u, hf, hf'⟩ := fetchInstr_withCosts hkey hc hc'
  · rw [hf, hf']
    rfl
  · rw [hf, hf']
    exact finish_sameUpToCosts c c' (exec_withCosts i u p n)

/-- Where the other table has a record for every key, the step is the same up to costs, or its own table lacks one. -/
theorem step_withCosts (s : State) (p : Costs) (n : Nat) (hcomplete : (s.withCosts p n).cfg.costsComplete) :
    SameUpToCosts p (step s) (step (s.withCosts p n)) ∨
      (¬ s.cfg.costsComplete ∧ ∃ k : Key, step s = .fault (.malformedOpcode k.space k.opcode s.pc)) := by
  have hrun := s.running_withCosts p n
  cases hr : s.running with
  | false =>
    rw [step_idle hr, step_idle (hrun.trans hr), startStep_withCosts]
    exact .inl ⟨_, rfl⟩
  | true =>
    have hkey' : fetchKey (startStep (s.withCosts p n)) = _ :=
      (congrArg fetchKey (startStep_withCosts s p n)).trans (fetchKey_withCosts (startStep s) p n)
    cases hkey : fetchKey (startStep s) with
    | error f =>
      rw [hkey] at hkey'
      rw [step_running hr, step_running (hrun.trans hr), fetchInstr_fault_key hkey, fetchInstr_fault_key hkey']
      exact .inl rfl
    | ok r =>
      obtain ⟨k, t⟩ := r
      rw [hkey] at hkey'
      by_cases hill : k.space = .primary ∧ k.opcode ∈ illegalOpcodes
      · obtain ⟨sp, op⟩ := k
        obtain ⟨rfl, hop⟩ := hill
        rw [step_illegal_key hr hkey hop, step_illegal_key (hrun.trans hr) hkey' hop]
        exact .inl rfl
      · have hlegal : k.space = .primary → k.opcode ≠ 0xCB ∧ k.opcode ∉ illegalOpcodes :=
          fun hsp => ⟨(fetchKey_only hkey).2.2 hsp, fun hop => hill ⟨hsp, hop⟩⟩
        obtain ⟨c', hc'⟩ := Option.isSome_iff_exists.1 (hcomplete k hlegal)
        cases hc : costOf s.cfg k with
        | some c => exact .inl (step_withCosts_of_costOf hr hkey hc hc')
        | none =>
          refine .inr ⟨fun h => by simpa [hc] using h k hlegal, k, ?_⟩
          rw [step_running hr]
          simp only [fetchInstr, hkey, startStep_cfg, hc, orFault_error, startStep_pc]

/-- Settles O10: the step is the same up to costs, or ends in a MalformedOpcode that a complete table rules out. -/
theorem costsDoNotMatter : Obligations.CostsDoNotMatter := by
  intro s u changes idle service m cfg s' hcomplete
  have hs' : s' = s.withCosts ⟨u, changes, idle, service⟩ m := rfl
  rw [hs']
  obtain hsame | ⟨hlack, k, hstep⟩ := step_withCosts s ⟨u, changes, idle, service⟩ m hcomplete
  · refine ⟨fun t ht => ?_, fun a k info hf => ?_, fun _ sp op pc hf => ?_⟩
    · rw [ht] at hsame
      obtain ⟨n, hn⟩ := hsame
      rw [hn, State.withCosts, step_cfg ht]
      exact ⟨n, rfl⟩
    · rwa [hf] at hsame
    · rwa [hf] at hsame
  · exact ⟨fun t ht => by simp [hstep] at ht, fun a k info hf => by simp [hstep] at hf,
      fun hc => absurd hc hlack⟩

end Sys2Proof.Machine
end
